-- ==== Sys2Proof/Word.lean ====
section
/-! DEFINITION. The two data widths of the core: a bus byte and a 16-bit address or register pair
(spec 00_scope.md R7 `WORD`, R9). -/

namespace Sys2Proof

/-- A `u8`: one register slot, one bus byte (R9, R62). -/
abbrev Byte := BitVec 8

/-- A `u16`: SP, PC, a register pair, a bus address (R9, R62). -/
abbrev Word := BitVec 16

end Sys2Proof
end

