-- ==== Sys2Proof/Machine/Bits.lean ====
section
/-! DEFINITION. The bit-field, byte-order and sign-extension helpers of spec 00_scope.md R8 to R11. -/

namespace Sys2Proof.Machine

/-- `hi8(v) = v[15:8]` (R10). -/
def hi8 (v : Word) : Byte := v.extractLsb' 8 8

/-- `lo8(v) = v[7:0]` (R10). -/
def lo8 (v : Word) : Byte := v.extractLsb' 0 8

/-- `make16(hi, lo) = hi * 256 + lo` (R10). -/
def make16 (hi lo : Byte) : Word := hi ++ lo

/-- `sext_16(v)`: the offset byte e8 taken to 16 bits (R11). -/
def sext16 (v : Byte) : Word := v.signExtend 16

/-- `zext_16(v)` (R11). -/
def zext16 (v : Byte) : Word := v.setWidth 16

/-- `signed8(v)`: the byte read as an integer -128..127 (R11). -/
def signed8 (v : Byte) : Int := v.toInt

/-- `rotl8(v, d)` (R11). -/
def rotl8 (v : Byte) (d : Nat) : Byte := v.rotateLeft d

/-- `rotr8(v, d)` (R11). -/
def rotr8 (v : Byte) (d : Nat) : Byte := v.rotateRight d

/-- `reverse8(v)`: the bits of a byte in the opposite order (R11). -/
def reverse8 (v : Byte) : Byte := v.reverse

/-- `complement8(v) = 0xFF - v` (R11). -/
def complement8 (v : Byte) : Byte := ~~~v

/-- `bit` as a byte with that bit in place `i`. -/
def bitAt (i : Nat) (b : Bool) : Byte := if b then 1#8 <<< i else 0

/-- A byte with bit `i` made `b` and the others kept (the source's `set(bits, i, v)`, R110). -/
def withBit (v : Byte) (i : Nat) (b : Bool) : Byte := (v &&& complement8 (1#8 <<< i)) ||| bitAt i b

/-- Fields of an opcode byte (R87): `x = op[7:6]`. -/
def fieldX (op : Byte) : BitVec 2 := op.extractLsb' 6 2

/-- `y = op[5:3]` (R87). -/
def fieldY (op : Byte) : BitVec 3 := op.extractLsb' 3 3

/-- `z = op[2:0]` (R87). -/
def fieldZ (op : Byte) : BitVec 3 := op.extractLsb' 0 3

/-- `p = op[5:4]` (R87). -/
def fieldP (op : Byte) : BitVec 2 := op.extractLsb' 4 2

/-- `q = op[3]` (R87). -/
def fieldQ (op : Byte) : Bool := op.getLsbD 3

end Sys2Proof.Machine
end

