-- ==== Sys2Proof/Syntax.lean ====
section
/-! DEFINITION. The instructions: one constructor per row of spec/opcode_table.json (the 11 `(illegal)` rows,
which share one mnemonic, are the constructor `illegal` with its byte). Names follow the assembler syntax
of spec 30_encoding.md R99, `At` standing for the parentheses of a memory operand: `ldAtHlB` is
`LD (HL),B`. The system instructions stand last. Operands: `n8` and `e8` the byte after the opcode, `n16` the two bytes after it (R93). -/

namespace Sys2Proof

/-- An instruction of the direct table (R94) or of the prefixed table (R95). -/
inductive Instr where
  /-- `LD BC,n16` (R135). -/
  | ldBcN16 (n16 : Word)
  /-- `LD (BC),A` (R123). -/
  | ldAtBcA
  /-- `INC BC` (R174). -/
  | incBc
  /-- `INC B` (R165). -/
  | incB
  /-- `DEC B` (R167). -/
  | decB
  /-- `LD B,n8` (R117). -/
  | ldBN8 (n8 : Byte)
  /-- `RLCA` (R178). -/
  | rlca
  /-- `LD (n16),SP` (R136). -/
  | ldAtN16Sp (n16 : Word)
  /-- `ADD HL,BC` (R173). -/
  | addHlBc
  /-- `LD A,(BC)` (R121). -/
  | ldAAtBc
  /-- `DEC BC` (R175). -/
  | decBc
  /-- `INC C` (R165). -/
  | incC
  /-- `DEC C` (R167). -/
  | decC
  /-- `LD C,n8` (R117). -/
  | ldCN8 (n8 : Byte)
  /-- `RRCA` (R179). -/
  | rrca
  /-- `LD DE,n16` (R135). -/
  | ldDeN16 (n16 : Word)
  /-- `LD (DE),A` (R124). -/
  | ldAtDeA
  /-- `INC DE` (R174). -/
  | incDe
  /-- `INC D` (R165). -/
  | incD
  /-- `DEC D` (R167). -/
  | decD
  /-- `LD D,n8` (R117). -/
  | ldDN8 (n8 : Byte)
  /-- `RLA` (R180). -/
  | rla
  /-- `JR e8` (R207). -/
  | jrE8 (e8 : Byte)
  /-- `ADD HL,DE` (R173). -/
  | addHlDe
  /-- `LD A,(DE)` (R122). -/
  | ldAAtDe
  /-- `DEC DE` (R175). -/
  | decDe
  /-- `INC E` (R165). -/
  | incE
  /-- `DEC E` (R167). -/
  | decE
  /-- `LD E,n8` (R117). -/
  | ldEN8 (n8 : Byte)
  /-- `RRA` (R181). -/
  | rra
  /-- `JR NZ,e8` (R208). -/
  | jrNzE8 (e8 : Byte)
  /-- `LD HL,n16` (R135). -/
  | ldHlN16 (n16 : Word)
  /-- `LD (HL+),A` (R127). -/
  | ldAtHliA
  /-- `INC HL` (R174). -/
  | incHl
  /-- `INC H` (R165). -/
  | incH
  /-- `DEC H` (R167). -/
  | decH
  /-- `LD H,n8` (R117). -/
  | ldHN8 (n8 : Byte)
  /-- `DAA` (R169). -/
  | daa
  /-- `JR Z,e8` (R208). -/
  | jrZE8 (e8 : Byte)
  /-- `ADD HL,HL` (R173). -/
  | addHlHl
  /-- `LD A,(HL+)` (R125). -/
  | ldAAtHli
  /-- `DEC HL` (R175). -/
  | decHl
  /-- `INC L` (R165). -/
  | incL
  /-- `DEC L` (R167). -/
  | decL
  /-- `LD L,n8` (R117). -/
  | ldLN8 (n8 : Byte)
  /-- `CPL` (R170). -/
  | cpl
  /-- `JR NC,e8` (R208). -/
  | jrNcE8 (e8 : Byte)
  /-- `LD SP,n16` (R135). -/
  | ldSpN16 (n16 : Word)
  /-- `LD (HL-),A` (R128). -/
  | ldAtHldA
  /-- `INC SP` (R174). -/
  | incSp
  /-- `INC (HL)` (R166). -/
  | incAtHl
  /-- `DEC (HL)` (R168). -/
  | decAtHl
  /-- `LD (HL),n8` (R120). -/
  | ldAtHlN8 (n8 : Byte)
  /-- `SCF` (R171). -/
  | scf
  /-- `JR C,e8` (R208). -/
  | jrCE8 (e8 : Byte)
  /-- `ADD HL,SP` (R173). -/
  | addHlSp
  /-- `LD A,(HL-)` (R126). -/
  | ldAAtHld
  /-- `DEC SP` (R175). -/
  | decSp
  /-- `INC A` (R165). -/
  | incA
  /-- `DEC A` (R167). -/
  | decA
  /-- `LD A,n8` (R117). -/
  | ldAN8 (n8 : Byte)
  /-- `CCF` (R172). -/
  | ccf
  /-- `LD B,B` (R116). -/
  | ldBB
  /-- `LD B,C` (R116). -/
  | ldBC
  /-- `LD B,D` (R116). -/
  | ldBD
  /-- `LD B,E` (R116). -/
  | ldBE
  /-- `LD B,H` (R116). -/
  | ldBH
  /-- `LD B,L` (R116). -/
  | ldBL
  /-- `LD B,(HL)` (R118). -/
  | ldBAtHl
  /-- `LD B,A` (R116). -/
  | ldBA
  /-- `LD C,B` (R116). -/
  | ldCB
  /-- `LD C,C` (R116). -/
  | ldCC
  /-- `LD C,D` (R116). -/
  | ldCD
  /-- `LD C,E` (R116). -/
  | ldCE
  /-- `LD C,H` (R116). -/
  | ldCH
  /-- `LD C,L` (R116). -/
  | ldCL
  /-- `LD C,(HL)` (R118). -/
  | ldCAtHl
  /-- `LD C,A` (R116). -/
  | ldCA
  /-- `LD D,B` (R116). -/
  | ldDB
  /-- `LD D,C` (R116). -/
  | ldDC
  /-- `LD D,D` (R116). -/
  | ldDD
  /-- `LD D,E` (R116). -/
  | ldDE
  /-- `LD D,H` (R116). -/
  | ldDH
  /-- `LD D,L` (R116). -/
  | ldDL
  /-- `LD D,(HL)` (R118). -/
  | ldDAtHl
  /-- `LD D,A` (R116). -/
  | ldDA
  /-- `LD E,B` (R116). -/
  | ldEB
  /-- `LD E,C` (R116). -/
  | ldEC
  /-- `LD E,D` (R116). -/
  | ldED
  /-- `LD E,E` (R116). -/
  | ldEE
  /-- `LD E,H` (R116). -/
  | ldEH
  /-- `LD E,L` (R116). -/
  | ldEL
  /-- `LD E,(HL)` (R118). -/
  | ldEAtHl
  /-- `LD E,A` (R116). -/
  | ldEA
  /-- `LD H,B` (R116). -/
  | ldHB
  /-- `LD H,C` (R116). -/
  | ldHC
  /-- `LD H,D` (R116). -/
  | ldHD
  /-- `LD H,E` (R116). -/
  | ldHE
  /-- `LD H,H` (R116). -/
  | ldHH
  /-- `LD H,L` (R116). -/
  | ldHL
  /-- `LD H,(HL)` (R118). -/
  | ldHAtHl
  /-- `LD H,A` (R116). -/
  | ldHA
  /-- `LD L,B` (R116). -/
  | ldLB
  /-- `LD L,C` (R116). -/
  | ldLC
  /-- `LD L,D` (R116). -/
  | ldLD
  /-- `LD L,E` (R116). -/
  | ldLE
  /-- `LD L,H` (R116). -/
  | ldLH
  /-- `LD L,L` (R116). -/
  | ldLL
  /-- `LD L,(HL)` (R118). -/
  | ldLAtHl
  /-- `LD L,A` (R116). -/
  | ldLA
  /-- `LD (HL),B` (R119). -/
  | ldAtHlB
  /-- `LD (HL),C` (R119). -/
  | ldAtHlC
  /-- `LD (HL),D` (R119). -/
  | ldAtHlD
  /-- `LD (HL),E` (R119). -/
  | ldAtHlE
  /-- `LD (HL),H` (R119). -/
  | ldAtHlH
  /-- `LD (HL),L` (R119). -/
  | ldAtHlL
  /-- `LD (HL),A` (R119). -/
  | ldAtHlA
  /-- `LD A,B` (R116). -/
  | ldAB
  /-- `LD A,C` (R116). -/
  | ldAC
  /-- `LD A,D` (R116). -/
  | ldAD
  /-- `LD A,E` (R116). -/
  | ldAE
  /-- `LD A,H` (R116). -/
  | ldAH
  /-- `LD A,L` (R116). -/
  | ldAL
  /-- `LD A,(HL)` (R118). -/
  | ldAAtHl
  /-- `LD A,A` (R116). -/
  | ldAA
  /-- `ADD A,B` (R141). -/
  | addAB
  /-- `ADD A,C` (R141). -/
  | addAC
  /-- `ADD A,D` (R141). -/
  | addAD
  /-- `ADD A,E` (R141). -/
  | addAE
  /-- `ADD A,H` (R141). -/
  | addAH
  /-- `ADD A,L` (R141). -/
  | addAL
  /-- `ADD A,(HL)` (R142). -/
  | addAAtHl
  /-- `ADD A,A` (R141). -/
  | addAA
  /-- `ADC A,B` (R144). -/
  | adcAB
  /-- `ADC A,C` (R144). -/
  | adcAC
  /-- `ADC A,D` (R144). -/
  | adcAD
  /-- `ADC A,E` (R144). -/
  | adcAE
  /-- `ADC A,H` (R144). -/
  | adcAH
  /-- `ADC A,L` (R144). -/
  | adcAL
  /-- `ADC A,(HL)` (R145). -/
  | adcAAtHl
  /-- `ADC A,A` (R144). -/
  | adcAA
  /-- `SUB A,B` (R147). -/
  | subAB
  /-- `SUB A,C` (R147). -/
  | subAC
  /-- `SUB A,D` (R147). -/
  | subAD
  /-- `SUB A,E` (R147). -/
  | subAE
  /-- `SUB A,H` (R147). -/
  | subAH
  /-- `SUB A,L` (R147). -/
  | subAL
  /-- `SUB A,(HL)` (R148). -/
  | subAAtHl
  /-- `SUB A,A` (R147). -/
  | subAA
  /-- `SBC A,B` (R150). -/
  | sbcAB
  /-- `SBC A,C` (R150). -/
  | sbcAC
  /-- `SBC A,D` (R150). -/
  | sbcAD
  /-- `SBC A,E` (R150). -/
  | sbcAE
  /-- `SBC A,H` (R150). -/
  | sbcAH
  /-- `SBC A,L` (R150). -/
  | sbcAL
  /-- `SBC A,(HL)` (R151). -/
  | sbcAAtHl
  /-- `SBC A,A` (R150). -/
  | sbcAA
  /-- `AND A,B` (R156). -/
  | andAB
  /-- `AND A,C` (R156). -/
  | andAC
  /-- `AND A,D` (R156). -/
  | andAD
  /-- `AND A,E` (R156). -/
  | andAE
  /-- `AND A,H` (R156). -/
  | andAH
  /-- `AND A,L` (R156). -/
  | andAL
  /-- `AND A,(HL)` (R157). -/
  | andAAtHl
  /-- `AND A,A` (R156). -/
  | andAA
  /-- `XOR A,B` (R159). -/
  | xorAB
  /-- `XOR A,C` (R159). -/
  | xorAC
  /-- `XOR A,D` (R159). -/
  | xorAD
  /-- `XOR A,E` (R159). -/
  | xorAE
  /-- `XOR A,H` (R159). -/
  | xorAH
  /-- `XOR A,L` (R159). -/
  | xorAL
  /-- `XOR A,(HL)` (R160). -/
  | xorAAtHl
  /-- `XOR A,A` (R159). -/
  | xorAA
  /-- `OR A,B` (R162). -/
  | orAB
  /-- `OR A,C` (R162). -/
  | orAC
  /-- `OR A,D` (R162). -/
  | orAD
  /-- `OR A,E` (R162). -/
  | orAE
  /-- `OR A,H` (R162). -/
  | orAH
  /-- `OR A,L` (R162). -/
  | orAL
  /-- `OR A,(HL)` (R163). -/
  | orAAtHl
  /-- `OR A,A` (R162). -/
  | orAA
  /-- `CP A,B` (R153). -/
  | cpAB
  /-- `CP A,C` (R153). -/
  | cpAC
  /-- `CP A,D` (R153). -/
  | cpAD
  /-- `CP A,E` (R153). -/
  | cpAE
  /-- `CP A,H` (R153). -/
  | cpAH
  /-- `CP A,L` (R153). -/
  | cpAL
  /-- `CP A,(HL)` (R154). -/
  | cpAAtHl
  /-- `CP A,A` (R153). -/
  | cpAA
  /-- `RET NZ` (R212). -/
  | retNz
  /-- `POP BC` (R139). -/
  | popBc
  /-- `JP NZ,n16` (R205). -/
  | jpNzN16 (n16 : Word)
  /-- `JP n16` (R204). -/
  | jpN16 (n16 : Word)
  /-- `CALL NZ,n16` (R210). -/
  | callNzN16 (n16 : Word)
  /-- `PUSH BC` (R138). -/
  | pushBc
  /-- `ADD A,n8` (R143). -/
  | addAN8 (n8 : Byte)
  /-- `RST 0x00` (R214). -/
  | rst00
  /-- `RET Z` (R212). -/
  | retZ
  /-- `RET` (R211). -/
  | ret
  /-- `JP Z,n16` (R205). -/
  | jpZN16 (n16 : Word)
  /-- The direct table's entry for 0xCB: the prefixed instruction its second byte selects (R84).
  Decoding never gives it, because that byte is looked up in the prefixed table. -/
  | prefixCb (op2 : Byte)
  /-- `CALL Z,n16` (R210). -/
  | callZN16 (n16 : Word)
  /-- `CALL n16` (R209). -/
  | callN16 (n16 : Word)
  /-- `ADC A,n8` (R146). -/
  | adcAN8 (n8 : Byte)
  /-- `RST 0x08` (R214). -/
  | rst08
  /-- `RET NC` (R212). -/
  | retNc
  /-- `POP DE` (R139). -/
  | popDe
  /-- `JP NC,n16` (R205). -/
  | jpNcN16 (n16 : Word)
  /-- One of the 11 direct-table bytes that encode no instruction (R96, R220). -/
  | illegal (op : Byte)
  /-- `CALL NC,n16` (R210). -/
  | callNcN16 (n16 : Word)
  /-- `PUSH DE` (R138). -/
  | pushDe
  /-- `SUB A,n8` (R149). -/
  | subAN8 (n8 : Byte)
  /-- `RST 0x10` (R214). -/
  | rst10
  /-- `RET C` (R212). -/
  | retC
  /-- `RETI` (R213). -/
  | reti
  /-- `JP C,n16` (R205). -/
  | jpCN16 (n16 : Word)
  /-- `CALL C,n16` (R210). -/
  | callCN16 (n16 : Word)
  /-- `SBC A,n8` (R152). -/
  | sbcAN8 (n8 : Byte)
  /-- `RST 0x18` (R214). -/
  | rst18
  /-- `LDH (n8),A` (R132). -/
  | ldhAtN8A (n8 : Byte)
  /-- `POP HL` (R139). -/
  | popHl
  /-- `LDH (C),A` (R134). -/
  | ldhAtCA
  /-- `PUSH HL` (R138). -/
  | pushHl
  /-- `AND A,n8` (R158). -/
  | andAN8 (n8 : Byte)
  /-- `RST 0x20` (R214). -/
  | rst20
  /-- `ADD SP,e8` (R176). -/
  | addSpE8 (e8 : Byte)
  /-- `JP HL` (R206). -/
  | jpHl
  /-- `LD (n16),A` (R130). -/
  | ldAtN16A (n16 : Word)
  /-- `XOR A,n8` (R161). -/
  | xorAN8 (n8 : Byte)
  /-- `RST 0x28` (R214). -/
  | rst28
  /-- `LDH A,(n8)` (R131). -/
  | ldhAAtN8 (n8 : Byte)
  /-- `POP AF` (R139). -/
  | popAf
  /-- `LDH A,(C)` (R133). -/
  | ldhAAtC
  /-- `PUSH AF` (R138). -/
  | pushAf
  /-- `OR A,n8` (R164). -/
  | orAN8 (n8 : Byte)
  /-- `RST 0x30` (R214). -/
  | rst30
  /-- `LD HL,SP+e8` (R177). -/
  | ldHlSpE8 (e8 : Byte)
  /-- `LD SP,HL` (R137). -/
  | ldSpHl
  /-- `LD A,(n16)` (R129). -/
  | ldAAtN16 (n16 : Word)
  /-- `CP A,n8` (R155). -/
  | cpAN8 (n8 : Byte)
  /-- `RST 0x38` (R214). -/
  | rst38
  /-- `RLC B` (R182). -/
  | rlcB
  /-- `RLC C` (R182). -/
  | rlcC
  /-- `RLC D` (R182). -/
  | rlcD
  /-- `RLC E` (R182). -/
  | rlcE
  /-- `RLC H` (R182). -/
  | rlcH
  /-- `RLC L` (R182). -/
  | rlcL
  /-- `RLC (HL)` (R183). -/
  | rlcAtHl
  /-- `RLC A` (R182). -/
  | rlcA
  /-- `RRC B` (R184). -/
  | rrcB
  /-- `RRC C` (R184). -/
  | rrcC
  /-- `RRC D` (R184). -/
  | rrcD
  /-- `RRC E` (R184). -/
  | rrcE
  /-- `RRC H` (R184). -/
  | rrcH
  /-- `RRC L` (R184). -/
  | rrcL
  /-- `RRC (HL)` (R185). -/
  | rrcAtHl
  /-- `RRC A` (R184). -/
  | rrcA
  /-- `RL B` (R186). -/
  | rlB
  /-- `RL C` (R186). -/
  | rlC
  /-- `RL D` (R186). -/
  | rlD
  /-- `RL E` (R186). -/
  | rlE
  /-- `RL H` (R186). -/
  | rlH
  /-- `RL L` (R186). -/
  | rlL
  /-- `RL (HL)` (R187). -/
  | rlAtHl
  /-- `RL A` (R186). -/
  | rlA
  /-- `RR B` (R188). -/
  | rrB
  /-- `RR C` (R188). -/
  | rrC
  /-- `RR D` (R188). -/
  | rrD
  /-- `RR E` (R188). -/
  | rrE
  /-- `RR H` (R188). -/
  | rrH
  /-- `RR L` (R188). -/
  | rrL
  /-- `RR (HL)` (R189). -/
  | rrAtHl
  /-- `RR A` (R188). -/
  | rrA
  /-- `SLA B` (R190). -/
  | slaB
  /-- `SLA C` (R190). -/
  | slaC
  /-- `SLA D` (R190). -/
  | slaD
  /-- `SLA E` (R190). -/
  | slaE
  /-- `SLA H` (R190). -/
  | slaH
  /-- `SLA L` (R190). -/
  | slaL
  /-- `SLA (HL)` (R191). -/
  | slaAtHl
  /-- `SLA A` (R190). -/
  | slaA
  /-- `SRA B` (R192). -/
  | sraB
  /-- `SRA C` (R192). -/
  | sraC
  /-- `SRA D` (R192). -/
  | sraD
  /-- `SRA E` (R192). -/
  | sraE
  /-- `SRA H` (R192). -/
  | sraH
  /-- `SRA L` (R192). -/
  | sraL
  /-- `SRA (HL)` (R193). -/
  | sraAtHl
  /-- `SRA A` (R192). -/
  | sraA
  /-- `SWAP B` (R196). -/
  | swapB
  /-- `SWAP C` (R196). -/
  | swapC
  /-- `SWAP D` (R196). -/
  | swapD
  /-- `SWAP E` (R196). -/
  | swapE
  /-- `SWAP H` (R196). -/
  | swapH
  /-- `SWAP L` (R196). -/
  | swapL
  /-- `SWAP (HL)` (R197). -/
  | swapAtHl
  /-- `SWAP A` (R196). -/
  | swapA
  /-- `SRL B` (R194). -/
  | srlB
  /-- `SRL C` (R194). -/
  | srlC
  /-- `SRL D` (R194). -/
  | srlD
  /-- `SRL E` (R194). -/
  | srlE
  /-- `SRL H` (R194). -/
  | srlH
  /-- `SRL L` (R194). -/
  | srlL
  /-- `SRL (HL)` (R195). -/
  | srlAtHl
  /-- `SRL A` (R194). -/
  | srlA
  /-- `BIT 0,B` (R198). -/
  | bit0B
  /-- `BIT 0,C` (R198). -/
  | bit0C
  /-- `BIT 0,D` (R198). -/
  | bit0D
  /-- `BIT 0,E` (R198). -/
  | bit0E
  /-- `BIT 0,H` (R198). -/
  | bit0H
  /-- `BIT 0,L` (R198). -/
  | bit0L
  /-- `BIT 0,(HL)` (R199). -/
  | bit0AtHl
  /-- `BIT 0,A` (R198). -/
  | bit0A
  /-- `BIT 1,B` (R198). -/
  | bit1B
  /-- `BIT 1,C` (R198). -/
  | bit1C
  /-- `BIT 1,D` (R198). -/
  | bit1D
  /-- `BIT 1,E` (R198). -/
  | bit1E
  /-- `BIT 1,H` (R198). -/
  | bit1H
  /-- `BIT 1,L` (R198). -/
  | bit1L
  /-- `BIT 1,(HL)` (R199). -/
  | bit1AtHl
  /-- `BIT 1,A` (R198). -/
  | bit1A
  /-- `BIT 2,B` (R198). -/
  | bit2B
  /-- `BIT 2,C` (R198). -/
  | bit2C
  /-- `BIT 2,D` (R198). -/
  | bit2D
  /-- `BIT 2,E` (R198). -/
  | bit2E
  /-- `BIT 2,H` (R198). -/
  | bit2H
  /-- `BIT 2,L` (R198). -/
  | bit2L
  /-- `BIT 2,(HL)` (R199). -/
  | bit2AtHl
  /-- `BIT 2,A` (R198). -/
  | bit2A
  /-- `BIT 3,B` (R198). -/
  | bit3B
  /-- `BIT 3,C` (R198). -/
  | bit3C
  /-- `BIT 3,D` (R198). -/
  | bit3D
  /-- `BIT 3,E` (R198). -/
  | bit3E
  /-- `BIT 3,H` (R198). -/
  | bit3H
  /-- `BIT 3,L` (R198). -/
  | bit3L
  /-- `BIT 3,(HL)` (R199). -/
  | bit3AtHl
  /-- `BIT 3,A` (R198). -/
  | bit3A
  /-- `BIT 4,B` (R198). -/
  | bit4B
  /-- `BIT 4,C` (R198). -/
  | bit4C
  /-- `BIT 4,D` (R198). -/
  | bit4D
  /-- `BIT 4,E` (R198). -/
  | bit4E
  /-- `BIT 4,H` (R198). -/
  | bit4H
  /-- `BIT 4,L` (R198). -/
  | bit4L
  /-- `BIT 4,(HL)` (R199). -/
  | bit4AtHl
  /-- `BIT 4,A` (R198). -/
  | bit4A
  /-- `BIT 5,B` (R198). -/
  | bit5B
  /-- `BIT 5,C` (R198). -/
  | bit5C
  /-- `BIT 5,D` (R198). -/
  | bit5D
  /-- `BIT 5,E` (R198). -/
  | bit5E
  /-- `BIT 5,H` (R198). -/
  | bit5H
  /-- `BIT 5,L` (R198). -/
  | bit5L
  /-- `BIT 5,(HL)` (R199). -/
  | bit5AtHl
  /-- `BIT 5,A` (R198). -/
  | bit5A
  /-- `BIT 6,B` (R198). -/
  | bit6B
  /-- `BIT 6,C` (R198). -/
  | bit6C
  /-- `BIT 6,D` (R198). -/
  | bit6D
  /-- `BIT 6,E` (R198). -/
  | bit6E
  /-- `BIT 6,H` (R198). -/
  | bit6H
  /-- `BIT 6,L` (R198). -/
  | bit6L
  /-- `BIT 6,(HL)` (R199). -/
  | bit6AtHl
  /-- `BIT 6,A` (R198). -/
  | bit6A
  /-- `BIT 7,B` (R198). -/
  | bit7B
  /-- `BIT 7,C` (R198). -/
  | bit7C
  /-- `BIT 7,D` (R198). -/
  | bit7D
  /-- `BIT 7,E` (R198). -/
  | bit7E
  /-- `BIT 7,H` (R198). -/
  | bit7H
  /-- `BIT 7,L` (R198). -/
  | bit7L
  /-- `BIT 7,(HL)` (R199). -/
  | bit7AtHl
  /-- `BIT 7,A` (R198). -/
  | bit7A
  /-- `RES 0,B` (R200). -/
  | res0B
  /-- `RES 0,C` (R200). -/
  | res0C
  /-- `RES 0,D` (R200). -/
  | res0D
  /-- `RES 0,E` (R200). -/
  | res0E
  /-- `RES 0,H` (R200). -/
  | res0H
  /-- `RES 0,L` (R200). -/
  | res0L
  /-- `RES 0,(HL)` (R201). -/
  | res0AtHl
  /-- `RES 0,A` (R200). -/
  | res0A
  /-- `RES 1,B` (R200). -/
  | res1B
  /-- `RES 1,C` (R200). -/
  | res1C
  /-- `RES 1,D` (R200). -/
  | res1D
  /-- `RES 1,E` (R200). -/
  | res1E
  /-- `RES 1,H` (R200). -/
  | res1H
  /-- `RES 1,L` (R200). -/
  | res1L
  /-- `RES 1,(HL)` (R201). -/
  | res1AtHl
  /-- `RES 1,A` (R200). -/
  | res1A
  /-- `RES 2,B` (R200). -/
  | res2B
  /-- `RES 2,C` (R200). -/
  | res2C
  /-- `RES 2,D` (R200). -/
  | res2D
  /-- `RES 2,E` (R200). -/
  | res2E
  /-- `RES 2,H` (R200). -/
  | res2H
  /-- `RES 2,L` (R200). -/
  | res2L
  /-- `RES 2,(HL)` (R201). -/
  | res2AtHl
  /-- `RES 2,A` (R200). -/
  | res2A
  /-- `RES 3,B` (R200). -/
  | res3B
  /-- `RES 3,C` (R200). -/
  | res3C
  /-- `RES 3,D` (R200). -/
  | res3D
  /-- `RES 3,E` (R200). -/
  | res3E
  /-- `RES 3,H` (R200). -/
  | res3H
  /-- `RES 3,L` (R200). -/
  | res3L
  /-- `RES 3,(HL)` (R201). -/
  | res3AtHl
  /-- `RES 3,A` (R200). -/
  | res3A
  /-- `RES 4,B` (R200). -/
  | res4B
  /-- `RES 4,C` (R200). -/
  | res4C
  /-- `RES 4,D` (R200). -/
  | res4D
  /-- `RES 4,E` (R200). -/
  | res4E
  /-- `RES 4,H` (R200). -/
  | res4H
  /-- `RES 4,L` (R200). -/
  | res4L
  /-- `RES 4,(HL)` (R201). -/
  | res4AtHl
  /-- `RES 4,A` (R200). -/
  | res4A
  /-- `RES 5,B` (R200). -/
  | res5B
  /-- `RES 5,C` (R200). -/
  | res5C
  /-- `RES 5,D` (R200). -/
  | res5D
  /-- `RES 5,E` (R200). -/
  | res5E
  /-- `RES 5,H` (R200). -/
  | res5H
  /-- `RES 5,L` (R200). -/
  | res5L
  /-- `RES 5,(HL)` (R201). -/
  | res5AtHl
  /-- `RES 5,A` (R200). -/
  | res5A
  /-- `RES 6,B` (R200). -/
  | res6B
  /-- `RES 6,C` (R200). -/
  | res6C
  /-- `RES 6,D` (R200). -/
  | res6D
  /-- `RES 6,E` (R200). -/
  | res6E
  /-- `RES 6,H` (R200). -/
  | res6H
  /-- `RES 6,L` (R200). -/
  | res6L
  /-- `RES 6,(HL)` (R201). -/
  | res6AtHl
  /-- `RES 6,A` (R200). -/
  | res6A
  /-- `RES 7,B` (R200). -/
  | res7B
  /-- `RES 7,C` (R200). -/
  | res7C
  /-- `RES 7,D` (R200). -/
  | res7D
  /-- `RES 7,E` (R200). -/
  | res7E
  /-- `RES 7,H` (R200). -/
  | res7H
  /-- `RES 7,L` (R200). -/
  | res7L
  /-- `RES 7,(HL)` (R201). -/
  | res7AtHl
  /-- `RES 7,A` (R200). -/
  | res7A
  /-- `SET 0,B` (R202). -/
  | set0B
  /-- `SET 0,C` (R202). -/
  | set0C
  /-- `SET 0,D` (R202). -/
  | set0D
  /-- `SET 0,E` (R202). -/
  | set0E
  /-- `SET 0,H` (R202). -/
  | set0H
  /-- `SET 0,L` (R202). -/
  | set0L
  /-- `SET 0,(HL)` (R203). -/
  | set0AtHl
  /-- `SET 0,A` (R202). -/
  | set0A
  /-- `SET 1,B` (R202). -/
  | set1B
  /-- `SET 1,C` (R202). -/
  | set1C
  /-- `SET 1,D` (R202). -/
  | set1D
  /-- `SET 1,E` (R202). -/
  | set1E
  /-- `SET 1,H` (R202). -/
  | set1H
  /-- `SET 1,L` (R202). -/
  | set1L
  /-- `SET 1,(HL)` (R203). -/
  | set1AtHl
  /-- `SET 1,A` (R202). -/
  | set1A
  /-- `SET 2,B` (R202). -/
  | set2B
  /-- `SET 2,C` (R202). -/
  | set2C
  /-- `SET 2,D` (R202). -/
  | set2D
  /-- `SET 2,E` (R202). -/
  | set2E
  /-- `SET 2,H` (R202). -/
  | set2H
  /-- `SET 2,L` (R202). -/
  | set2L
  /-- `SET 2,(HL)` (R203). -/
  | set2AtHl
  /-- `SET 2,A` (R202). -/
  | set2A
  /-- `SET 3,B` (R202). -/
  | set3B
  /-- `SET 3,C` (R202). -/
  | set3C
  /-- `SET 3,D` (R202). -/
  | set3D
  /-- `SET 3,E` (R202). -/
  | set3E
  /-- `SET 3,H` (R202). -/
  | set3H
  /-- `SET 3,L` (R202). -/
  | set3L
  /-- `SET 3,(HL)` (R203). -/
  | set3AtHl
  /-- `SET 3,A` (R202). -/
  | set3A
  /-- `SET 4,B` (R202). -/
  | set4B
  /-- `SET 4,C` (R202). -/
  | set4C
  /-- `SET 4,D` (R202). -/
  | set4D
  /-- `SET 4,E` (R202). -/
  | set4E
  /-- `SET 4,H` (R202). -/
  | set4H
  /-- `SET 4,L` (R202). -/
  | set4L
  /-- `SET 4,(HL)` (R203). -/
  | set4AtHl
  /-- `SET 4,A` (R202). -/
  | set4A
  /-- `SET 5,B` (R202). -/
  | set5B
  /-- `SET 5,C` (R202). -/
  | set5C
  /-- `SET 5,D` (R202). -/
  | set5D
  /-- `SET 5,E` (R202). -/
  | set5E
  /-- `SET 5,H` (R202). -/
  | set5H
  /-- `SET 5,L` (R202). -/
  | set5L
  /-- `SET 5,(HL)` (R203). -/
  | set5AtHl
  /-- `SET 5,A` (R202). -/
  | set5A
  /-- `SET 6,B` (R202). -/
  | set6B
  /-- `SET 6,C` (R202). -/
  | set6C
  /-- `SET 6,D` (R202). -/
  | set6D
  /-- `SET 6,E` (R202). -/
  | set6E
  /-- `SET 6,H` (R202). -/
  | set6H
  /-- `SET 6,L` (R202). -/
  | set6L
  /-- `SET 6,(HL)` (R203). -/
  | set6AtHl
  /-- `SET 6,A` (R202). -/
  | set6A
  /-- `SET 7,B` (R202). -/
  | set7B
  /-- `SET 7,C` (R202). -/
  | set7C
  /-- `SET 7,D` (R202). -/
  | set7D
  /-- `SET 7,E` (R202). -/
  | set7E
  /-- `SET 7,H` (R202). -/
  | set7H
  /-- `SET 7,L` (R202). -/
  | set7L
  /-- `SET 7,(HL)` (R203). -/
  | set7AtHl
  /-- `SET 7,A` (R202). -/
  | set7A
  /-- `NOP` (R215). -/
  | nop
  /-- `STOP` (R219). -/
  | stop
  /-- `HALT` (R218). -/
  | halt
  /-- `DI` (R216). -/
  | di
  /-- `EI` (R217). -/
  | ei
  deriving DecidableEq, Repr

end Sys2Proof
end

