-- ==== Sys2Proof/WellFormed.lean ====
section
/-! DEFINITION. Which instructions of `Instr` the machine can hold in memory. Every operand is typed to its
width, so only two constructors carry a condition. -/

namespace Sys2Proof

/-- The 11 direct-table bytes that encode no instruction (R96). -/
def illegalBytes : List Byte :=
  [0xD3, 0xDB, 0xDD, 0xE3, 0xE4, 0xEB, 0xEC, 0xED, 0xF4, 0xFC, 0xFD]

/-- An `illegal` byte is one of the 11 (R96); the prefix entry is no instruction of its own, "it is never
executed alone" (R84); every other instruction is well formed. -/
def Instr.wellFormed (i : Instr) : Bool :=
  match i with
  | .illegal op => illegalBytes.contains op
  | .prefixCb _ => false
  | _ => true

end Sys2Proof
end

