-- ==== Sys2Proof/Decode.lean ====
section
/-! DEFINITION. The two opcode tables (spec 30_encoding.md R94, R95), decoding by them (R84, R93, R97, R98),
the descriptor columns (R85) and, after them, the encoder. -/

namespace Sys2Proof

/-- One entry of the direct table: an instruction with no operand byte, one followed by a byte that is
never read (STOP, R97), one with a byte operand, one with a 16-bit operand, or the prefix. -/
inductive Entry where
  | bare (i : Instr)
  | unread (i : Instr)
  | imm8 (mk : Byte → Instr)
  | imm16 (mk : Word → Instr)
  | toTableTwo

/-- Row 0x of the direct table (R94). -/
def directRow0 : List Entry :=
  [
   .bare .nop, .imm16 .ldBcN16, .bare .ldAtBcA, .bare .incBc, .bare .incB, .bare .decB, .imm8 .ldBN8,
   .bare .rlca, .imm16 .ldAtN16Sp, .bare .addHlBc, .bare .ldAAtBc, .bare .decBc, .bare .incC,
   .bare .decC, .imm8 .ldCN8, .bare .rrca]

/-- Row 1x of the direct table (R94). -/
def directRow1 : List Entry :=
  [
   .unread .stop, .imm16 .ldDeN16, .bare .ldAtDeA, .bare .incDe, .bare .incD, .bare .decD,
   .imm8 .ldDN8, .bare .rla, .imm8 .jrE8, .bare .addHlDe, .bare .ldAAtDe, .bare .decDe, .bare .incE,
   .bare .decE, .imm8 .ldEN8, .bare .rra]

/-- Row 2x of the direct table (R94). -/
def directRow2 : List Entry :=
  [
   .imm8 .jrNzE8, .imm16 .ldHlN16, .bare .ldAtHliA, .bare .incHl, .bare .incH, .bare .decH,
   .imm8 .ldHN8, .bare .daa, .imm8 .jrZE8, .bare .addHlHl, .bare .ldAAtHli, .bare .decHl, .bare .incL,
   .bare .decL, .imm8 .ldLN8, .bare .cpl]

/-- Row 3x of the direct table (R94). -/
def directRow3 : List Entry :=
  [
   .imm8 .jrNcE8, .imm16 .ldSpN16, .bare .ldAtHldA, .bare .incSp, .bare .incAtHl, .bare .decAtHl,
   .imm8 .ldAtHlN8, .bare .scf, .imm8 .jrCE8, .bare .addHlSp, .bare .ldAAtHld, .bare .decSp,
   .bare .incA, .bare .decA, .imm8 .ldAN8, .bare .ccf]

/-- Row 4x of the direct table (R94). -/
def directRow4 : List Entry :=
  [
   .bare .ldBB, .bare .ldBC, .bare .ldBD, .bare .ldBE, .bare .ldBH, .bare .ldBL, .bare .ldBAtHl,
   .bare .ldBA, .bare .ldCB, .bare .ldCC, .bare .ldCD, .bare .ldCE, .bare .ldCH, .bare .ldCL,
   .bare .ldCAtHl, .bare .ldCA]

/-- Row 5x of the direct table (R94). -/
def directRow5 : List Entry :=
  [
   .bare .ldDB, .bare .ldDC, .bare .ldDD, .bare .ldDE, .bare .ldDH, .bare .ldDL, .bare .ldDAtHl,
   .bare .ldDA, .bare .ldEB, .bare .ldEC, .bare .ldED, .bare .ldEE, .bare .ldEH, .bare .ldEL,
   .bare .ldEAtHl, .bare .ldEA]

/-- Row 6x of the direct table (R94). -/
def directRow6 : List Entry :=
  [
   .bare .ldHB, .bare .ldHC, .bare .ldHD, .bare .ldHE, .bare .ldHH, .bare .ldHL, .bare .ldHAtHl,
   .bare .ldHA, .bare .ldLB, .bare .ldLC, .bare .ldLD, .bare .ldLE, .bare .ldLH, .bare .ldLL,
   .bare .ldLAtHl, .bare .ldLA]

/-- Row 7x of the direct table (R94). -/
def directRow7 : List Entry :=
  [
   .bare .ldAtHlB, .bare .ldAtHlC, .bare .ldAtHlD, .bare .ldAtHlE, .bare .ldAtHlH, .bare .ldAtHlL,
   .bare .halt, .bare .ldAtHlA, .bare .ldAB, .bare .ldAC, .bare .ldAD, .bare .ldAE, .bare .ldAH,
   .bare .ldAL, .bare .ldAAtHl, .bare .ldAA]

/-- Row 8x of the direct table (R94). -/
def directRow8 : List Entry :=
  [
   .bare .addAB, .bare .addAC, .bare .addAD, .bare .addAE, .bare .addAH, .bare .addAL, .bare .addAAtHl,
   .bare .addAA, .bare .adcAB, .bare .adcAC, .bare .adcAD, .bare .adcAE, .bare .adcAH, .bare .adcAL,
   .bare .adcAAtHl, .bare .adcAA]

/-- Row 9x of the direct table (R94). -/
def directRow9 : List Entry :=
  [
   .bare .subAB, .bare .subAC, .bare .subAD, .bare .subAE, .bare .subAH, .bare .subAL, .bare .subAAtHl,
   .bare .subAA, .bare .sbcAB, .bare .sbcAC, .bare .sbcAD, .bare .sbcAE, .bare .sbcAH, .bare .sbcAL,
   .bare .sbcAAtHl, .bare .sbcAA]

/-- Row Ax of the direct table (R94). -/
def directRowA : List Entry :=
  [
   .bare .andAB, .bare .andAC, .bare .andAD, .bare .andAE, .bare .andAH, .bare .andAL, .bare .andAAtHl,
   .bare .andAA, .bare .xorAB, .bare .xorAC, .bare .xorAD, .bare .xorAE, .bare .xorAH, .bare .xorAL,
   .bare .xorAAtHl, .bare .xorAA]

/-- Row Bx of the direct table (R94). -/
def directRowB : List Entry :=
  [
   .bare .orAB, .bare .orAC, .bare .orAD, .bare .orAE, .bare .orAH, .bare .orAL, .bare .orAAtHl,
   .bare .orAA, .bare .cpAB, .bare .cpAC, .bare .cpAD, .bare .cpAE, .bare .cpAH, .bare .cpAL,
   .bare .cpAAtHl, .bare .cpAA]

/-- Row Cx of the direct table (R94). -/
def directRowC : List Entry :=
  [
   .bare .retNz, .bare .popBc, .imm16 .jpNzN16, .imm16 .jpN16, .imm16 .callNzN16, .bare .pushBc,
   .imm8 .addAN8, .bare .rst00, .bare .retZ, .bare .ret, .imm16 .jpZN16, .toTableTwo, .imm16 .callZN16,
   .imm16 .callN16, .imm8 .adcAN8, .bare .rst08]

/-- Row Dx of the direct table (R94). -/
def directRowD : List Entry :=
  [
   .bare .retNc, .bare .popDe, .imm16 .jpNcN16, .bare (.illegal 0xD3), .imm16 .callNcN16,
   .bare .pushDe, .imm8 .subAN8, .bare .rst10, .bare .retC, .bare .reti, .imm16 .jpCN16,
   .bare (.illegal 0xDB), .imm16 .callCN16, .bare (.illegal 0xDD), .imm8 .sbcAN8, .bare .rst18]

/-- Row Ex of the direct table (R94). -/
def directRowE : List Entry :=
  [
   .imm8 .ldhAtN8A, .bare .popHl, .bare .ldhAtCA, .bare (.illegal 0xE3), .bare (.illegal 0xE4),
   .bare .pushHl, .imm8 .andAN8, .bare .rst20, .imm8 .addSpE8, .bare .jpHl, .imm16 .ldAtN16A,
   .bare (.illegal 0xEB), .bare (.illegal 0xEC), .bare (.illegal 0xED), .imm8 .xorAN8, .bare .rst28]

/-- Row Fx of the direct table (R94). -/
def directRowF : List Entry :=
  [
   .imm8 .ldhAAtN8, .bare .popAf, .bare .ldhAAtC, .bare .di, .bare (.illegal 0xF4), .bare .pushAf,
   .imm8 .orAN8, .bare .rst30, .imm8 .ldHlSpE8, .bare .ldSpHl, .imm16 .ldAAtN16, .bare .ei,
   .bare (.illegal 0xFC), .bare (.illegal 0xFD), .imm8 .cpAN8, .bare .rst38]

/-- Row 0x of the prefixed table (R95). -/
def tableTwoRow0 : List Instr :=
  [
   .rlcB, .rlcC, .rlcD, .rlcE, .rlcH, .rlcL, .rlcAtHl, .rlcA, .rrcB, .rrcC, .rrcD, .rrcE, .rrcH, .rrcL,
   .rrcAtHl, .rrcA]

/-- Row 1x of the prefixed table (R95). -/
def tableTwoRow1 : List Instr :=
  [
   .rlB, .rlC, .rlD, .rlE, .rlH, .rlL, .rlAtHl, .rlA, .rrB, .rrC, .rrD, .rrE, .rrH, .rrL, .rrAtHl, .rrA]

/-- Row 2x of the prefixed table (R95). -/
def tableTwoRow2 : List Instr :=
  [
   .slaB, .slaC, .slaD, .slaE, .slaH, .slaL, .slaAtHl, .slaA, .sraB, .sraC, .sraD, .sraE, .sraH, .sraL,
   .sraAtHl, .sraA]

/-- Row 3x of the prefixed table (R95). -/
def tableTwoRow3 : List Instr :=
  [
   .swapB, .swapC, .swapD, .swapE, .swapH, .swapL, .swapAtHl, .swapA, .srlB, .srlC, .srlD, .srlE,
   .srlH, .srlL, .srlAtHl, .srlA]

/-- Row 4x of the prefixed table (R95). -/
def tableTwoRow4 : List Instr :=
  [
   .bit0B, .bit0C, .bit0D, .bit0E, .bit0H, .bit0L, .bit0AtHl, .bit0A, .bit1B, .bit1C, .bit1D, .bit1E,
   .bit1H, .bit1L, .bit1AtHl, .bit1A]

/-- Row 5x of the prefixed table (R95). -/
def tableTwoRow5 : List Instr :=
  [
   .bit2B, .bit2C, .bit2D, .bit2E, .bit2H, .bit2L, .bit2AtHl, .bit2A, .bit3B, .bit3C, .bit3D, .bit3E,
   .bit3H, .bit3L, .bit3AtHl, .bit3A]

/-- Row 6x of the prefixed table (R95). -/
def tableTwoRow6 : List Instr :=
  [
   .bit4B, .bit4C, .bit4D, .bit4E, .bit4H, .bit4L, .bit4AtHl, .bit4A, .bit5B, .bit5C, .bit5D, .bit5E,
   .bit5H, .bit5L, .bit5AtHl, .bit5A]

/-- Row 7x of the prefixed table (R95). -/
def tableTwoRow7 : List Instr :=
  [
   .bit6B, .bit6C, .bit6D, .bit6E, .bit6H, .bit6L, .bit6AtHl, .bit6A, .bit7B, .bit7C, .bit7D, .bit7E,
   .bit7H, .bit7L, .bit7AtHl, .bit7A]

/-- Row 8x of the prefixed table (R95). -/
def tableTwoRow8 : List Instr :=
  [
   .res0B, .res0C, .res0D, .res0E, .res0H, .res0L, .res0AtHl, .res0A, .res1B, .res1C, .res1D, .res1E,
   .res1H, .res1L, .res1AtHl, .res1A]

/-- Row 9x of the prefixed table (R95). -/
def tableTwoRow9 : List Instr :=
  [
   .res2B, .res2C, .res2D, .res2E, .res2H, .res2L, .res2AtHl, .res2A, .res3B, .res3C, .res3D, .res3E,
   .res3H, .res3L, .res3AtHl, .res3A]

/-- Row Ax of the prefixed table (R95). -/
def tableTwoRowA : List Instr :=
  [
   .res4B, .res4C, .res4D, .res4E, .res4H, .res4L, .res4AtHl, .res4A, .res5B, .res5C, .res5D, .res5E,
   .res5H, .res5L, .res5AtHl, .res5A]

/-- Row Bx of the prefixed table (R95). -/
def tableTwoRowB : List Instr :=
  [
   .res6B, .res6C, .res6D, .res6E, .res6H, .res6L, .res6AtHl, .res6A, .res7B, .res7C, .res7D, .res7E,
   .res7H, .res7L, .res7AtHl, .res7A]

/-- Row Cx of the prefixed table (R95). -/
def tableTwoRowC : List Instr :=
  [
   .set0B, .set0C, .set0D, .set0E, .set0H, .set0L, .set0AtHl, .set0A, .set1B, .set1C, .set1D, .set1E,
   .set1H, .set1L, .set1AtHl, .set1A]

/-- Row Dx of the prefixed table (R95). -/
def tableTwoRowD : List Instr :=
  [
   .set2B, .set2C, .set2D, .set2E, .set2H, .set2L, .set2AtHl, .set2A, .set3B, .set3C, .set3D, .set3E,
   .set3H, .set3L, .set3AtHl, .set3A]

/-- Row Ex of the prefixed table (R95). -/
def tableTwoRowE : List Instr :=
  [
   .set4B, .set4C, .set4D, .set4E, .set4H, .set4L, .set4AtHl, .set4A, .set5B, .set5C, .set5D, .set5E,
   .set5H, .set5L, .set5AtHl, .set5A]

/-- Row Fx of the prefixed table (R95). -/
def tableTwoRowF : List Instr :=
  [
   .set6B, .set6C, .set6D, .set6E, .set6H, .set6L, .set6AtHl, .set6A, .set7B, .set7C, .set7D, .set7E,
   .set7H, .set7L, .set7AtHl, .set7A]

/-- The direct table, row by high nibble and column by low nibble (R94). -/
def directTable : List (List Entry) :=
  [
   directRow0, directRow1, directRow2, directRow3, directRow4, directRow5, directRow6, directRow7,
   directRow8, directRow9, directRowA, directRowB, directRowC, directRowD, directRowE, directRowF]

/-- The prefixed table in the same layout (R95). -/
def tableTwo : List (List Instr) :=
  [
   tableTwoRow0, tableTwoRow1, tableTwoRow2, tableTwoRow3, tableTwoRow4, tableTwoRow5, tableTwoRow6,
   tableTwoRow7, tableTwoRow8, tableTwoRow9, tableTwoRowA, tableTwoRowB, tableTwoRowC, tableTwoRowD,
   tableTwoRowE, tableTwoRowF]

/-- The cell of a 16 by 16 table that a byte indexes. -/
def cellAt {α : Type} (table : List (List α)) (absent : α) (b : Byte) : α :=
  (table.getD (b.toNat / 16) []).getD (b.toNat % 16) absent

/-- `DIRECT[b]` (R84). -/
def directEntry (b : Byte) : Entry := cellAt directTable (.bare (.illegal b)) b

/-- `PREFIXED[b]` (R84); all 256 entries are instructions (R95). -/
def tableTwoInstr (b : Byte) : Instr := cellAt tableTwo (.prefixCb b) b

/-- The instruction whose bytes start with b0, b1, b2 (R84, R93: n16 has its low byte first). -/
def decode3 (b0 b1 b2 : Byte) : Instr :=
  match directEntry b0 with
  | .bare i => i
  | .unread i => i
  | .imm8 mk => mk b1
  | .imm16 mk => mk (Machine.make16 b2 b1)
  | .toTableTwo => tableTwoInstr b1

/-- Why a list of bytes holds no whole instruction. -/
inductive DecodeError where
  /-- There is no opcode byte. -/
  | noOpcode
  /-- The second opcode byte of a prefixed instruction is missing. -/
  | noSecondOpcode
  /-- Operand bytes of this opcode are missing. -/
  | missingOperand (op : Byte)
  deriving DecidableEq, Repr

/-- The instruction at the head of a list of bytes, total on every list (R84, R86). -/
def decode (bytes : List Byte) : Except DecodeError Instr :=
  match bytes with
  | [] => .error .noOpcode
  | b0 :: rest =>
    match directEntry b0, rest with
    | .bare i, _ => .ok i
    | .unread i, _ => .ok i
    | .imm8 mk, b1 :: _ => .ok (mk b1)
    | .imm8 _, [] => .error (.missingOperand b0)
    | .imm16 mk, b1 :: b2 :: _ => .ok (mk (Machine.make16 b2 b1))
    | .imm16 _, _ => .error (.missingOperand b0)
    | .toTableTwo, b1 :: _ => .ok (tableTwoInstr b1)
    | .toTableTwo, [] => .error .noSecondOpcode

/-- The length in bytes, determined by the first byte alone (R85, R86, R98). STOP's is 2 although its
second byte is never read (R97). -/
def opcodeLength (b0 : Byte) : Nat :=
  match directEntry b0 with
  | .bare _ => 1
  | .unread _ => 2
  | .imm8 _ => 2
  | .imm16 _ => 3
  | .toTableTwo => 2

/-- The bytes the table's number `w` of `nbits` bits stands for, in memory order, with zeros after them.
spec/opcode_table.json numbers a prefixed row's 16 bits with the prefix 0xCB in bits 15..8 and the second
byte in bits 7..0 (its `match` is 0xCB2C for CB 2C); any other number has its first byte in bits 7..0
(log entry 7). -/
def tableBytes (nbits w : Nat) : List Byte :=
  if nbits = 16 ∧ w / 256 % 256 = 0xCB then [0xCB, BitVec.ofNat 8 w, 0]
  else
    let w' := w % 2 ^ nbits
    [BitVec.ofNat 8 w', BitVec.ofNat 8 (w' / 256), BitVec.ofNat 8 (w' / 65536)]

/-- The instruction this decoder reads from an instruction whose bits are `w` as the opcode table numbers
them, the bits above `nbits` zero. -/
def decodeTableWord (nbits w : Nat) : Option Instr := (decode (tableBytes nbits w)).toOption

/-- A row of cycle costs of the direct table: base, and extra when taken (R94). -/
abbrev CostRow := List (Nat × Nat)

/-- Row 0x of the direct table's costs (R94). -/
def directCosts0 : CostRow :=
  [
   (1, 0), (3, 0), (2, 0), (2, 0), (1, 0), (1, 0), (2, 0), (1, 0), (5, 0), (2, 0), (2, 0), (2, 0),
   (1, 0), (1, 0), (2, 0), (1, 0)]

/-- Row 1x of the direct table's costs (R94). -/
def directCosts1 : CostRow :=
  [
   (1, 0), (3, 0), (2, 0), (2, 0), (1, 0), (1, 0), (2, 0), (1, 0), (3, 0), (2, 0), (2, 0), (2, 0),
   (1, 0), (1, 0), (2, 0), (1, 0)]

/-- Row 2x of the direct table's costs (R94). -/
def directCosts2 : CostRow :=
  [
   (2, 1), (3, 0), (2, 0), (2, 0), (1, 0), (1, 0), (2, 0), (1, 0), (2, 1), (2, 0), (2, 0), (2, 0),
   (1, 0), (1, 0), (2, 0), (1, 0)]

/-- Row 3x of the direct table's costs (R94). -/
def directCosts3 : CostRow :=
  [
   (2, 1), (3, 0), (2, 0), (2, 0), (3, 0), (3, 0), (3, 0), (1, 0), (2, 1), (2, 0), (2, 0), (2, 0),
   (1, 0), (1, 0), (2, 0), (1, 0)]

/-- Row 4x of the direct table's costs (R94). -/
def directCosts4 : CostRow :=
  [
   (1, 0), (1, 0), (1, 0), (1, 0), (1, 0), (1, 0), (2, 0), (1, 0), (1, 0), (1, 0), (1, 0), (1, 0),
   (1, 0), (1, 0), (2, 0), (1, 0)]

/-- Row 5x of the direct table's costs (R94). -/
def directCosts5 : CostRow :=
  [
   (1, 0), (1, 0), (1, 0), (1, 0), (1, 0), (1, 0), (2, 0), (1, 0), (1, 0), (1, 0), (1, 0), (1, 0),
   (1, 0), (1, 0), (2, 0), (1, 0)]

/-- Row 6x of the direct table's costs (R94). -/
def directCosts6 : CostRow :=
  [
   (1, 0), (1, 0), (1, 0), (1, 0), (1, 0), (1, 0), (2, 0), (1, 0), (1, 0), (1, 0), (1, 0), (1, 0),
   (1, 0), (1, 0), (2, 0), (1, 0)]

/-- Row 7x of the direct table's costs (R94). -/
def directCosts7 : CostRow :=
  [
   (2, 0), (2, 0), (2, 0), (2, 0), (2, 0), (2, 0), (1, 0), (2, 0), (1, 0), (1, 0), (1, 0), (1, 0),
   (1, 0), (1, 0), (2, 0), (1, 0)]

/-- Row 8x of the direct table's costs (R94). -/
def directCosts8 : CostRow :=
  [
   (1, 0), (1, 0), (1, 0), (1, 0), (1, 0), (1, 0), (2, 0), (1, 0), (1, 0), (1, 0), (1, 0), (1, 0),
   (1, 0), (1, 0), (2, 0), (1, 0)]

/-- Row 9x of the direct table's costs (R94). -/
def directCosts9 : CostRow :=
  [
   (1, 0), (1, 0), (1, 0), (1, 0), (1, 0), (1, 0), (2, 0), (1, 0), (1, 0), (1, 0), (1, 0), (1, 0),
   (1, 0), (1, 0), (2, 0), (1, 0)]

/-- Row Ax of the direct table's costs (R94). -/
def directCostsA : CostRow :=
  [
   (1, 0), (1, 0), (1, 0), (1, 0), (1, 0), (1, 0), (2, 0), (1, 0), (1, 0), (1, 0), (1, 0), (1, 0),
   (1, 0), (1, 0), (2, 0), (1, 0)]

/-- Row Bx of the direct table's costs (R94). -/
def directCostsB : CostRow :=
  [
   (1, 0), (1, 0), (1, 0), (1, 0), (1, 0), (1, 0), (2, 0), (1, 0), (1, 0), (1, 0), (1, 0), (1, 0),
   (1, 0), (1, 0), (2, 0), (1, 0)]

/-- Row Cx of the direct table's costs (R94). -/
def directCostsC : CostRow :=
  [
   (2, 3), (3, 0), (3, 1), (4, 0), (3, 3), (4, 0), (2, 0), (4, 0), (2, 3), (4, 0), (3, 1), (0, 0),
   (3, 3), (6, 0), (2, 0), (4, 0)]

/-- Row Dx of the direct table's costs (R94). -/
def directCostsD : CostRow :=
  [
   (2, 3), (3, 0), (3, 1), (0, 0), (3, 3), (4, 0), (2, 0), (4, 0), (2, 3), (4, 0), (3, 1), (0, 0),
   (3, 3), (0, 0), (2, 0), (4, 0)]

/-- Row Ex of the direct table's costs (R94). -/
def directCostsE : CostRow :=
  [
   (3, 0), (3, 0), (2, 0), (0, 0), (0, 0), (4, 0), (2, 0), (4, 0), (4, 0), (1, 0), (4, 0), (0, 0),
   (0, 0), (0, 0), (2, 0), (4, 0)]

/-- Row Fx of the direct table's costs (R94). -/
def directCostsF : CostRow :=
  [
   (3, 0), (3, 0), (2, 0), (1, 0), (0, 0), (4, 0), (2, 0), (4, 0), (3, 0), (2, 0), (4, 0), (1, 0),
   (0, 0), (0, 0), (2, 0), (4, 0)]

/-- Row 0x of the prefixed table's costs (R95). -/
def tableTwoCosts0 : CostRow :=
  [
   (2, 0), (2, 0), (2, 0), (2, 0), (2, 0), (2, 0), (4, 0), (2, 0), (2, 0), (2, 0), (2, 0), (2, 0),
   (2, 0), (2, 0), (4, 0), (2, 0)]

/-- Row 1x of the prefixed table's costs (R95). -/
def tableTwoCosts1 : CostRow :=
  [
   (2, 0), (2, 0), (2, 0), (2, 0), (2, 0), (2, 0), (4, 0), (2, 0), (2, 0), (2, 0), (2, 0), (2, 0),
   (2, 0), (2, 0), (4, 0), (2, 0)]

/-- Row 2x of the prefixed table's costs (R95). -/
def tableTwoCosts2 : CostRow :=
  [
   (2, 0), (2, 0), (2, 0), (2, 0), (2, 0), (2, 0), (4, 0), (2, 0), (2, 0), (2, 0), (2, 0), (2, 0),
   (2, 0), (2, 0), (4, 0), (2, 0)]

/-- Row 3x of the prefixed table's costs (R95). -/
def tableTwoCosts3 : CostRow :=
  [
   (2, 0), (2, 0), (2, 0), (2, 0), (2, 0), (2, 0), (4, 0), (2, 0), (2, 0), (2, 0), (2, 0), (2, 0),
   (2, 0), (2, 0), (4, 0), (2, 0)]

/-- Row 4x of the prefixed table's costs (R95). -/
def tableTwoCosts4 : CostRow :=
  [
   (2, 0), (2, 0), (2, 0), (2, 0), (2, 0), (2, 0), (3, 0), (2, 0), (2, 0), (2, 0), (2, 0), (2, 0),
   (2, 0), (2, 0), (3, 0), (2, 0)]

/-- Row 5x of the prefixed table's costs (R95). -/
def tableTwoCosts5 : CostRow :=
  [
   (2, 0), (2, 0), (2, 0), (2, 0), (2, 0), (2, 0), (3, 0), (2, 0), (2, 0), (2, 0), (2, 0), (2, 0),
   (2, 0), (2, 0), (3, 0), (2, 0)]

/-- Row 6x of the prefixed table's costs (R95). -/
def tableTwoCosts6 : CostRow :=
  [
   (2, 0), (2, 0), (2, 0), (2, 0), (2, 0), (2, 0), (3, 0), (2, 0), (2, 0), (2, 0), (2, 0), (2, 0),
   (2, 0), (2, 0), (3, 0), (2, 0)]

/-- Row 7x of the prefixed table's costs (R95). -/
def tableTwoCosts7 : CostRow :=
  [
   (2, 0), (2, 0), (2, 0), (2, 0), (2, 0), (2, 0), (3, 0), (2, 0), (2, 0), (2, 0), (2, 0), (2, 0),
   (2, 0), (2, 0), (3, 0), (2, 0)]

/-- Row 8x of the prefixed table's costs (R95). -/
def tableTwoCosts8 : CostRow :=
  [
   (2, 0), (2, 0), (2, 0), (2, 0), (2, 0), (2, 0), (4, 0), (2, 0), (2, 0), (2, 0), (2, 0), (2, 0),
   (2, 0), (2, 0), (4, 0), (2, 0)]

/-- Row 9x of the prefixed table's costs (R95). -/
def tableTwoCosts9 : CostRow :=
  [
   (2, 0), (2, 0), (2, 0), (2, 0), (2, 0), (2, 0), (4, 0), (2, 0), (2, 0), (2, 0), (2, 0), (2, 0),
   (2, 0), (2, 0), (4, 0), (2, 0)]

/-- Row Ax of the prefixed table's costs (R95). -/
def tableTwoCostsA : CostRow :=
  [
   (2, 0), (2, 0), (2, 0), (2, 0), (2, 0), (2, 0), (4, 0), (2, 0), (2, 0), (2, 0), (2, 0), (2, 0),
   (2, 0), (2, 0), (4, 0), (2, 0)]

/-- Row Bx of the prefixed table's costs (R95). -/
def tableTwoCostsB : CostRow :=
  [
   (2, 0), (2, 0), (2, 0), (2, 0), (2, 0), (2, 0), (4, 0), (2, 0), (2, 0), (2, 0), (2, 0), (2, 0),
   (2, 0), (2, 0), (4, 0), (2, 0)]

/-- Row Cx of the prefixed table's costs (R95). -/
def tableTwoCostsC : CostRow :=
  [
   (2, 0), (2, 0), (2, 0), (2, 0), (2, 0), (2, 0), (4, 0), (2, 0), (2, 0), (2, 0), (2, 0), (2, 0),
   (2, 0), (2, 0), (4, 0), (2, 0)]

/-- Row Dx of the prefixed table's costs (R95). -/
def tableTwoCostsD : CostRow :=
  [
   (2, 0), (2, 0), (2, 0), (2, 0), (2, 0), (2, 0), (4, 0), (2, 0), (2, 0), (2, 0), (2, 0), (2, 0),
   (2, 0), (2, 0), (4, 0), (2, 0)]

/-- Row Ex of the prefixed table's costs (R95). -/
def tableTwoCostsE : CostRow :=
  [
   (2, 0), (2, 0), (2, 0), (2, 0), (2, 0), (2, 0), (4, 0), (2, 0), (2, 0), (2, 0), (2, 0), (2, 0),
   (2, 0), (2, 0), (4, 0), (2, 0)]

/-- Row Fx of the prefixed table's costs (R95). -/
def tableTwoCostsF : CostRow :=
  [
   (2, 0), (2, 0), (2, 0), (2, 0), (2, 0), (2, 0), (4, 0), (2, 0), (2, 0), (2, 0), (2, 0), (2, 0),
   (2, 0), (2, 0), (4, 0), (2, 0)]

/-- The base cycle cost and the extra cycles when taken of the instruction that starts with b0, b1: the
columns `cycles` and `cycles_taken_extra` of the opcode table (R85, R94, R95). -/
def opcodeCost (b0 b1 : Byte) : Nat × Nat :=
  match directEntry b0 with
  | .toTableTwo =>
    cellAt [
      tableTwoCosts0, tableTwoCosts1, tableTwoCosts2, tableTwoCosts3, tableTwoCosts4, tableTwoCosts5,
      tableTwoCosts6, tableTwoCosts7, tableTwoCosts8, tableTwoCosts9, tableTwoCostsA, tableTwoCostsB,
      tableTwoCostsC, tableTwoCostsD, tableTwoCostsE, tableTwoCostsF] (0, 0) b1
  | _ =>
    cellAt [
      directCosts0, directCosts1, directCosts2, directCosts3, directCosts4, directCosts5, directCosts6,
      directCosts7, directCosts8, directCosts9, directCostsA, directCostsB, directCostsC, directCostsD,
      directCostsE, directCostsF] (0, 0) b0

/-- The bytes of an instruction in memory order, n16 low byte first (R86, R93, R94, R95). STOP is written
with its conventional second byte 0x00 (R97). -/
def encode (i : Instr) : List Byte :=
  match i with
  | .ldBcN16 n16 => [0x01, Machine.lo8 n16, Machine.hi8 n16]
  | .ldAtBcA => [0x02]
  | .incBc => [0x03]
  | .incB => [0x04]
  | .decB => [0x05]
  | .ldBN8 n8 => [0x06, n8]
  | .rlca => [0x07]
  | .ldAtN16Sp n16 => [0x08, Machine.lo8 n16, Machine.hi8 n16]
  | .addHlBc => [0x09]
  | .ldAAtBc => [0x0A]
  | .decBc => [0x0B]
  | .incC => [0x0C]
  | .decC => [0x0D]
  | .ldCN8 n8 => [0x0E, n8]
  | .rrca => [0x0F]
  | .ldDeN16 n16 => [0x11, Machine.lo8 n16, Machine.hi8 n16]
  | .ldAtDeA => [0x12]
  | .incDe => [0x13]
  | .incD => [0x14]
  | .decD => [0x15]
  | .ldDN8 n8 => [0x16, n8]
  | .rla => [0x17]
  | .jrE8 e8 => [0x18, e8]
  | .addHlDe => [0x19]
  | .ldAAtDe => [0x1A]
  | .decDe => [0x1B]
  | .incE => [0x1C]
  | .decE => [0x1D]
  | .ldEN8 n8 => [0x1E, n8]
  | .rra => [0x1F]
  | .jrNzE8 e8 => [0x20, e8]
  | .ldHlN16 n16 => [0x21, Machine.lo8 n16, Machine.hi8 n16]
  | .ldAtHliA => [0x22]
  | .incHl => [0x23]
  | .incH => [0x24]
  | .decH => [0x25]
  | .ldHN8 n8 => [0x26, n8]
  | .daa => [0x27]
  | .jrZE8 e8 => [0x28, e8]
  | .addHlHl => [0x29]
  | .ldAAtHli => [0x2A]
  | .decHl => [0x2B]
  | .incL => [0x2C]
  | .decL => [0x2D]
  | .ldLN8 n8 => [0x2E, n8]
  | .cpl => [0x2F]
  | .jrNcE8 e8 => [0x30, e8]
  | .ldSpN16 n16 => [0x31, Machine.lo8 n16, Machine.hi8 n16]
  | .ldAtHldA => [0x32]
  | .incSp => [0x33]
  | .incAtHl => [0x34]
  | .decAtHl => [0x35]
  | .ldAtHlN8 n8 => [0x36, n8]
  | .scf => [0x37]
  | .jrCE8 e8 => [0x38, e8]
  | .addHlSp => [0x39]
  | .ldAAtHld => [0x3A]
  | .decSp => [0x3B]
  | .incA => [0x3C]
  | .decA => [0x3D]
  | .ldAN8 n8 => [0x3E, n8]
  | .ccf => [0x3F]
  | .ldBB => [0x40]
  | .ldBC => [0x41]
  | .ldBD => [0x42]
  | .ldBE => [0x43]
  | .ldBH => [0x44]
  | .ldBL => [0x45]
  | .ldBAtHl => [0x46]
  | .ldBA => [0x47]
  | .ldCB => [0x48]
  | .ldCC => [0x49]
  | .ldCD => [0x4A]
  | .ldCE => [0x4B]
  | .ldCH => [0x4C]
  | .ldCL => [0x4D]
  | .ldCAtHl => [0x4E]
  | .ldCA => [0x4F]
  | .ldDB => [0x50]
  | .ldDC => [0x51]
  | .ldDD => [0x52]
  | .ldDE => [0x53]
  | .ldDH => [0x54]
  | .ldDL => [0x55]
  | .ldDAtHl => [0x56]
  | .ldDA => [0x57]
  | .ldEB => [0x58]
  | .ldEC => [0x59]
  | .ldED => [0x5A]
  | .ldEE => [0x5B]
  | .ldEH => [0x5C]
  | .ldEL => [0x5D]
  | .ldEAtHl => [0x5E]
  | .ldEA => [0x5F]
  | .ldHB => [0x60]
  | .ldHC => [0x61]
  | .ldHD => [0x62]
  | .ldHE => [0x63]
  | .ldHH => [0x64]
  | .ldHL => [0x65]
  | .ldHAtHl => [0x66]
  | .ldHA => [0x67]
  | .ldLB => [0x68]
  | .ldLC => [0x69]
  | .ldLD => [0x6A]
  | .ldLE => [0x6B]
  | .ldLH => [0x6C]
  | .ldLL => [0x6D]
  | .ldLAtHl => [0x6E]
  | .ldLA => [0x6F]
  | .ldAtHlB => [0x70]
  | .ldAtHlC => [0x71]
  | .ldAtHlD => [0x72]
  | .ldAtHlE => [0x73]
  | .ldAtHlH => [0x74]
  | .ldAtHlL => [0x75]
  | .ldAtHlA => [0x77]
  | .ldAB => [0x78]
  | .ldAC => [0x79]
  | .ldAD => [0x7A]
  | .ldAE => [0x7B]
  | .ldAH => [0x7C]
  | .ldAL => [0x7D]
  | .ldAAtHl => [0x7E]
  | .ldAA => [0x7F]
  | .addAB => [0x80]
  | .addAC => [0x81]
  | .addAD => [0x82]
  | .addAE => [0x83]
  | .addAH => [0x84]
  | .addAL => [0x85]
  | .addAAtHl => [0x86]
  | .addAA => [0x87]
  | .adcAB => [0x88]
  | .adcAC => [0x89]
  | .adcAD => [0x8A]
  | .adcAE => [0x8B]
  | .adcAH => [0x8C]
  | .adcAL => [0x8D]
  | .adcAAtHl => [0x8E]
  | .adcAA => [0x8F]
  | .subAB => [0x90]
  | .subAC => [0x91]
  | .subAD => [0x92]
  | .subAE => [0x93]
  | .subAH => [0x94]
  | .subAL => [0x95]
  | .subAAtHl => [0x96]
  | .subAA => [0x97]
  | .sbcAB => [0x98]
  | .sbcAC => [0x99]
  | .sbcAD => [0x9A]
  | .sbcAE => [0x9B]
  | .sbcAH => [0x9C]
  | .sbcAL => [0x9D]
  | .sbcAAtHl => [0x9E]
  | .sbcAA => [0x9F]
  | .andAB => [0xA0]
  | .andAC => [0xA1]
  | .andAD => [0xA2]
  | .andAE => [0xA3]
  | .andAH => [0xA4]
  | .andAL => [0xA5]
  | .andAAtHl => [0xA6]
  | .andAA => [0xA7]
  | .xorAB => [0xA8]
  | .xorAC => [0xA9]
  | .xorAD => [0xAA]
  | .xorAE => [0xAB]
  | .xorAH => [0xAC]
  | .xorAL => [0xAD]
  | .xorAAtHl => [0xAE]
  | .xorAA => [0xAF]
  | .orAB => [0xB0]
  | .orAC => [0xB1]
  | .orAD => [0xB2]
  | .orAE => [0xB3]
  | .orAH => [0xB4]
  | .orAL => [0xB5]
  | .orAAtHl => [0xB6]
  | .orAA => [0xB7]
  | .cpAB => [0xB8]
  | .cpAC => [0xB9]
  | .cpAD => [0xBA]
  | .cpAE => [0xBB]
  | .cpAH => [0xBC]
  | .cpAL => [0xBD]
  | .cpAAtHl => [0xBE]
  | .cpAA => [0xBF]
  | .retNz => [0xC0]
  | .popBc => [0xC1]
  | .jpNzN16 n16 => [0xC2, Machine.lo8 n16, Machine.hi8 n16]
  | .jpN16 n16 => [0xC3, Machine.lo8 n16, Machine.hi8 n16]
  | .callNzN16 n16 => [0xC4, Machine.lo8 n16, Machine.hi8 n16]
  | .pushBc => [0xC5]
  | .addAN8 n8 => [0xC6, n8]
  | .rst00 => [0xC7]
  | .retZ => [0xC8]
  | .ret => [0xC9]
  | .jpZN16 n16 => [0xCA, Machine.lo8 n16, Machine.hi8 n16]
  | .prefixCb op2 => [0xCB, op2]
  | .callZN16 n16 => [0xCC, Machine.lo8 n16, Machine.hi8 n16]
  | .callN16 n16 => [0xCD, Machine.lo8 n16, Machine.hi8 n16]
  | .adcAN8 n8 => [0xCE, n8]
  | .rst08 => [0xCF]
  | .retNc => [0xD0]
  | .popDe => [0xD1]
  | .jpNcN16 n16 => [0xD2, Machine.lo8 n16, Machine.hi8 n16]
  | .illegal op => [op]
  | .callNcN16 n16 => [0xD4, Machine.lo8 n16, Machine.hi8 n16]
  | .pushDe => [0xD5]
  | .subAN8 n8 => [0xD6, n8]
  | .rst10 => [0xD7]
  | .retC => [0xD8]
  | .reti => [0xD9]
  | .jpCN16 n16 => [0xDA, Machine.lo8 n16, Machine.hi8 n16]
  | .callCN16 n16 => [0xDC, Machine.lo8 n16, Machine.hi8 n16]
  | .sbcAN8 n8 => [0xDE, n8]
  | .rst18 => [0xDF]
  | .ldhAtN8A n8 => [0xE0, n8]
  | .popHl => [0xE1]
  | .ldhAtCA => [0xE2]
  | .pushHl => [0xE5]
  | .andAN8 n8 => [0xE6, n8]
  | .rst20 => [0xE7]
  | .addSpE8 e8 => [0xE8, e8]
  | .jpHl => [0xE9]
  | .ldAtN16A n16 => [0xEA, Machine.lo8 n16, Machine.hi8 n16]
  | .xorAN8 n8 => [0xEE, n8]
  | .rst28 => [0xEF]
  | .ldhAAtN8 n8 => [0xF0, n8]
  | .popAf => [0xF1]
  | .ldhAAtC => [0xF2]
  | .pushAf => [0xF5]
  | .orAN8 n8 => [0xF6, n8]
  | .rst30 => [0xF7]
  | .ldHlSpE8 e8 => [0xF8, e8]
  | .ldSpHl => [0xF9]
  | .ldAAtN16 n16 => [0xFA, Machine.lo8 n16, Machine.hi8 n16]
  | .cpAN8 n8 => [0xFE, n8]
  | .rst38 => [0xFF]
  | .rlcB => [0xCB, 0x00]
  | .rlcC => [0xCB, 0x01]
  | .rlcD => [0xCB, 0x02]
  | .rlcE => [0xCB, 0x03]
  | .rlcH => [0xCB, 0x04]
  | .rlcL => [0xCB, 0x05]
  | .rlcAtHl => [0xCB, 0x06]
  | .rlcA => [0xCB, 0x07]
  | .rrcB => [0xCB, 0x08]
  | .rrcC => [0xCB, 0x09]
  | .rrcD => [0xCB, 0x0A]
  | .rrcE => [0xCB, 0x0B]
  | .rrcH => [0xCB, 0x0C]
  | .rrcL => [0xCB, 0x0D]
  | .rrcAtHl => [0xCB, 0x0E]
  | .rrcA => [0xCB, 0x0F]
  | .rlB => [0xCB, 0x10]
  | .rlC => [0xCB, 0x11]
  | .rlD => [0xCB, 0x12]
  | .rlE => [0xCB, 0x13]
  | .rlH => [0xCB, 0x14]
  | .rlL => [0xCB, 0x15]
  | .rlAtHl => [0xCB, 0x16]
  | .rlA => [0xCB, 0x17]
  | .rrB => [0xCB, 0x18]
  | .rrC => [0xCB, 0x19]
  | .rrD => [0xCB, 0x1A]
  | .rrE => [0xCB, 0x1B]
  | .rrH => [0xCB, 0x1C]
  | .rrL => [0xCB, 0x1D]
  | .rrAtHl => [0xCB, 0x1E]
  | .rrA => [0xCB, 0x1F]
  | .slaB => [0xCB, 0x20]
  | .slaC => [0xCB, 0x21]
  | .slaD => [0xCB, 0x22]
  | .slaE => [0xCB, 0x23]
  | .slaH => [0xCB, 0x24]
  | .slaL => [0xCB, 0x25]
  | .slaAtHl => [0xCB, 0x26]
  | .slaA => [0xCB, 0x27]
  | .sraB => [0xCB, 0x28]
  | .sraC => [0xCB, 0x29]
  | .sraD => [0xCB, 0x2A]
  | .sraE => [0xCB, 0x2B]
  | .sraH => [0xCB, 0x2C]
  | .sraL => [0xCB, 0x2D]
  | .sraAtHl => [0xCB, 0x2E]
  | .sraA => [0xCB, 0x2F]
  | .swapB => [0xCB, 0x30]
  | .swapC => [0xCB, 0x31]
  | .swapD => [0xCB, 0x32]
  | .swapE => [0xCB, 0x33]
  | .swapH => [0xCB, 0x34]
  | .swapL => [0xCB, 0x35]
  | .swapAtHl => [0xCB, 0x36]
  | .swapA => [0xCB, 0x37]
  | .srlB => [0xCB, 0x38]
  | .srlC => [0xCB, 0x39]
  | .srlD => [0xCB, 0x3A]
  | .srlE => [0xCB, 0x3B]
  | .srlH => [0xCB, 0x3C]
  | .srlL => [0xCB, 0x3D]
  | .srlAtHl => [0xCB, 0x3E]
  | .srlA => [0xCB, 0x3F]
  | .bit0B => [0xCB, 0x40]
  | .bit0C => [0xCB, 0x41]
  | .bit0D => [0xCB, 0x42]
  | .bit0E => [0xCB, 0x43]
  | .bit0H => [0xCB, 0x44]
  | .bit0L => [0xCB, 0x45]
  | .bit0AtHl => [0xCB, 0x46]
  | .bit0A => [0xCB, 0x47]
  | .bit1B => [0xCB, 0x48]
  | .bit1C => [0xCB, 0x49]
  | .bit1D => [0xCB, 0x4A]
  | .bit1E => [0xCB, 0x4B]
  | .bit1H => [0xCB, 0x4C]
  | .bit1L => [0xCB, 0x4D]
  | .bit1AtHl => [0xCB, 0x4E]
  | .bit1A => [0xCB, 0x4F]
  | .bit2B => [0xCB, 0x50]
  | .bit2C => [0xCB, 0x51]
  | .bit2D => [0xCB, 0x52]
  | .bit2E => [0xCB, 0x53]
  | .bit2H => [0xCB, 0x54]
  | .bit2L => [0xCB, 0x55]
  | .bit2AtHl => [0xCB, 0x56]
  | .bit2A => [0xCB, 0x57]
  | .bit3B => [0xCB, 0x58]
  | .bit3C => [0xCB, 0x59]
  | .bit3D => [0xCB, 0x5A]
  | .bit3E => [0xCB, 0x5B]
  | .bit3H => [0xCB, 0x5C]
  | .bit3L => [0xCB, 0x5D]
  | .bit3AtHl => [0xCB, 0x5E]
  | .bit3A => [0xCB, 0x5F]
  | .bit4B => [0xCB, 0x60]
  | .bit4C => [0xCB, 0x61]
  | .bit4D => [0xCB, 0x62]
  | .bit4E => [0xCB, 0x63]
  | .bit4H => [0xCB, 0x64]
  | .bit4L => [0xCB, 0x65]
  | .bit4AtHl => [0xCB, 0x66]
  | .bit4A => [0xCB, 0x67]
  | .bit5B => [0xCB, 0x68]
  | .bit5C => [0xCB, 0x69]
  | .bit5D => [0xCB, 0x6A]
  | .bit5E => [0xCB, 0x6B]
  | .bit5H => [0xCB, 0x6C]
  | .bit5L => [0xCB, 0x6D]
  | .bit5AtHl => [0xCB, 0x6E]
  | .bit5A => [0xCB, 0x6F]
  | .bit6B => [0xCB, 0x70]
  | .bit6C => [0xCB, 0x71]
  | .bit6D => [0xCB, 0x72]
  | .bit6E => [0xCB, 0x73]
  | .bit6H => [0xCB, 0x74]
  | .bit6L => [0xCB, 0x75]
  | .bit6AtHl => [0xCB, 0x76]
  | .bit6A => [0xCB, 0x77]
  | .bit7B => [0xCB, 0x78]
  | .bit7C => [0xCB, 0x79]
  | .bit7D => [0xCB, 0x7A]
  | .bit7E => [0xCB, 0x7B]
  | .bit7H => [0xCB, 0x7C]
  | .bit7L => [0xCB, 0x7D]
  | .bit7AtHl => [0xCB, 0x7E]
  | .bit7A => [0xCB, 0x7F]
  | .res0B => [0xCB, 0x80]
  | .res0C => [0xCB, 0x81]
  | .res0D => [0xCB, 0x82]
  | .res0E => [0xCB, 0x83]
  | .res0H => [0xCB, 0x84]
  | .res0L => [0xCB, 0x85]
  | .res0AtHl => [0xCB, 0x86]
  | .res0A => [0xCB, 0x87]
  | .res1B => [0xCB, 0x88]
  | .res1C => [0xCB, 0x89]
  | .res1D => [0xCB, 0x8A]
  | .res1E => [0xCB, 0x8B]
  | .res1H => [0xCB, 0x8C]
  | .res1L => [0xCB, 0x8D]
  | .res1AtHl => [0xCB, 0x8E]
  | .res1A => [0xCB, 0x8F]
  | .res2B => [0xCB, 0x90]
  | .res2C => [0xCB, 0x91]
  | .res2D => [0xCB, 0x92]
  | .res2E => [0xCB, 0x93]
  | .res2H => [0xCB, 0x94]
  | .res2L => [0xCB, 0x95]
  | .res2AtHl => [0xCB, 0x96]
  | .res2A => [0xCB, 0x97]
  | .res3B => [0xCB, 0x98]
  | .res3C => [0xCB, 0x99]
  | .res3D => [0xCB, 0x9A]
  | .res3E => [0xCB, 0x9B]
  | .res3H => [0xCB, 0x9C]
  | .res3L => [0xCB, 0x9D]
  | .res3AtHl => [0xCB, 0x9E]
  | .res3A => [0xCB, 0x9F]
  | .res4B => [0xCB, 0xA0]
  | .res4C => [0xCB, 0xA1]
  | .res4D => [0xCB, 0xA2]
  | .res4E => [0xCB, 0xA3]
  | .res4H => [0xCB, 0xA4]
  | .res4L => [0xCB, 0xA5]
  | .res4AtHl => [0xCB, 0xA6]
  | .res4A => [0xCB, 0xA7]
  | .res5B => [0xCB, 0xA8]
  | .res5C => [0xCB, 0xA9]
  | .res5D => [0xCB, 0xAA]
  | .res5E => [0xCB, 0xAB]
  | .res5H => [0xCB, 0xAC]
  | .res5L => [0xCB, 0xAD]
  | .res5AtHl => [0xCB, 0xAE]
  | .res5A => [0xCB, 0xAF]
  | .res6B => [0xCB, 0xB0]
  | .res6C => [0xCB, 0xB1]
  | .res6D => [0xCB, 0xB2]
  | .res6E => [0xCB, 0xB3]
  | .res6H => [0xCB, 0xB4]
  | .res6L => [0xCB, 0xB5]
  | .res6AtHl => [0xCB, 0xB6]
  | .res6A => [0xCB, 0xB7]
  | .res7B => [0xCB, 0xB8]
  | .res7C => [0xCB, 0xB9]
  | .res7D => [0xCB, 0xBA]
  | .res7E => [0xCB, 0xBB]
  | .res7H => [0xCB, 0xBC]
  | .res7L => [0xCB, 0xBD]
  | .res7AtHl => [0xCB, 0xBE]
  | .res7A => [0xCB, 0xBF]
  | .set0B => [0xCB, 0xC0]
  | .set0C => [0xCB, 0xC1]
  | .set0D => [0xCB, 0xC2]
  | .set0E => [0xCB, 0xC3]
  | .set0H => [0xCB, 0xC4]
  | .set0L => [0xCB, 0xC5]
  | .set0AtHl => [0xCB, 0xC6]
  | .set0A => [0xCB, 0xC7]
  | .set1B => [0xCB, 0xC8]
  | .set1C => [0xCB, 0xC9]
  | .set1D => [0xCB, 0xCA]
  | .set1E => [0xCB, 0xCB]
  | .set1H => [0xCB, 0xCC]
  | .set1L => [0xCB, 0xCD]
  | .set1AtHl => [0xCB, 0xCE]
  | .set1A => [0xCB, 0xCF]
  | .set2B => [0xCB, 0xD0]
  | .set2C => [0xCB, 0xD1]
  | .set2D => [0xCB, 0xD2]
  | .set2E => [0xCB, 0xD3]
  | .set2H => [0xCB, 0xD4]
  | .set2L => [0xCB, 0xD5]
  | .set2AtHl => [0xCB, 0xD6]
  | .set2A => [0xCB, 0xD7]
  | .set3B => [0xCB, 0xD8]
  | .set3C => [0xCB, 0xD9]
  | .set3D => [0xCB, 0xDA]
  | .set3E => [0xCB, 0xDB]
  | .set3H => [0xCB, 0xDC]
  | .set3L => [0xCB, 0xDD]
  | .set3AtHl => [0xCB, 0xDE]
  | .set3A => [0xCB, 0xDF]
  | .set4B => [0xCB, 0xE0]
  | .set4C => [0xCB, 0xE1]
  | .set4D => [0xCB, 0xE2]
  | .set4E => [0xCB, 0xE3]
  | .set4H => [0xCB, 0xE4]
  | .set4L => [0xCB, 0xE5]
  | .set4AtHl => [0xCB, 0xE6]
  | .set4A => [0xCB, 0xE7]
  | .set5B => [0xCB, 0xE8]
  | .set5C => [0xCB, 0xE9]
  | .set5D => [0xCB, 0xEA]
  | .set5E => [0xCB, 0xEB]
  | .set5H => [0xCB, 0xEC]
  | .set5L => [0xCB, 0xED]
  | .set5AtHl => [0xCB, 0xEE]
  | .set5A => [0xCB, 0xEF]
  | .set6B => [0xCB, 0xF0]
  | .set6C => [0xCB, 0xF1]
  | .set6D => [0xCB, 0xF2]
  | .set6E => [0xCB, 0xF3]
  | .set6H => [0xCB, 0xF4]
  | .set6L => [0xCB, 0xF5]
  | .set6AtHl => [0xCB, 0xF6]
  | .set6A => [0xCB, 0xF7]
  | .set7B => [0xCB, 0xF8]
  | .set7C => [0xCB, 0xF9]
  | .set7D => [0xCB, 0xFA]
  | .set7E => [0xCB, 0xFB]
  | .set7H => [0xCB, 0xFC]
  | .set7L => [0xCB, 0xFD]
  | .set7AtHl => [0xCB, 0xFE]
  | .set7A => [0xCB, 0xFF]
  | .nop => [0x00]
  | .stop => [0x10, 0x00]
  | .halt => [0x76]
  | .di => [0xF3]
  | .ei => [0xFB]

end Sys2Proof
end

