-- ==== Sys2Proof/Machine/Flags.lean ====
section
/-! DEFINITION. ALU results, the flag selectors and every ALU function
(spec 00_scope.md R16 and R17, 40_alu.md R100 to R115, 42_arith8.md R140). -/

namespace Sys2Proof.Machine

/-- An ALU result: a value of `w` bits (0 bits where the function returns none) and the four flags (R16). -/
structure AluResult (w : Nat) where
  value : BitVec w
  z : Bool
  n : Bool
  h : Bool
  c : Bool
  deriving DecidableEq, Repr

/-- The byte with Z, N, H, C in bits 7..4 and zero in bits 3..0 (R17, R28). -/
def flagByte (z n h c : Bool) : Byte := bitAt 7 z ||| bitAt 6 n ||| bitAt 5 h ||| bitAt 4 c

/-- Z of F (R28). -/
def flagZ (f : Byte) : Bool := f.getLsbD 7

/-- N of F (R28). -/
def flagN (f : Byte) : Bool := f.getLsbD 6

/-- H of F (R28). -/
def flagH (f : Byte) : Bool := f.getLsbD 5

/-- C of F (R28). -/
def flagC (f : Byte) : Bool := f.getLsbD 4

/-- Where one flag of a selector comes from (R17): `0`, `1`, `a`, `-` and `!`. -/
inductive FlagSource where
  | zero
  | one
  | alu
  | keep
  | flip
  deriving DecidableEq, Repr

/-- One flag chosen by its source from the ALU's and the current one (R17, R140). -/
def FlagSource.pick (src : FlagSource) (alu now : Bool) : Bool :=
  match src with
  | .zero => false
  | .one => true
  | .alu => alu
  | .keep => now
  | .flip => !now

/-- A flag selector, the four-character string over Z N H C (R17). -/
structure Selector where
  z : FlagSource
  n : FlagSource
  h : FlagSource
  c : FlagSource
  deriving DecidableEq, Repr

/-- `flags(sel, r)`: the new F (R140). -/
def flags {w : Nat} (sel : Selector) (r : AluResult w) (f : Byte) : Byte :=
  flagByte (sel.z.pick r.z (flagZ f)) (sel.n.pick r.n (flagN f)) (sel.h.pick r.h (flagH f))
    (sel.c.pick r.c (flagC f))

/-- The result where an instruction has no ALU result, `flags(sel, none)` (R170 to R172). -/
def noResult : AluResult 0 := ⟨0, false, false, false, false⟩

/-- `a0aa`: ADD, ADC (R141). -/
def selAdd : Selector := ⟨.alu, .zero, .alu, .alu⟩
/-- `a1aa`: SUB, SBC, CP (R147). -/
def selSub : Selector := ⟨.alu, .one, .alu, .alu⟩
/-- `a010`: AND (R156). -/
def selAnd : Selector := ⟨.alu, .zero, .one, .zero⟩
/-- `a000`: XOR, OR, SWAP (R159, R162, R196). -/
def selOr : Selector := ⟨.alu, .zero, .zero, .zero⟩
/-- `a0a-`: INC (R165). -/
def selInc : Selector := ⟨.alu, .zero, .alu, .keep⟩
/-- `a1a-`: DEC (R167). -/
def selDec : Selector := ⟨.alu, .one, .alu, .keep⟩
/-- `a-0a`: DAA (R169). -/
def selDaa : Selector := ⟨.alu, .keep, .zero, .alu⟩
/-- `-11-`: CPL (R170). -/
def selCpl : Selector := ⟨.keep, .one, .one, .keep⟩
/-- `-001`: SCF (R171). -/
def selScf : Selector := ⟨.keep, .zero, .zero, .one⟩
/-- `-00!`: CCF (R172). -/
def selCcf : Selector := ⟨.keep, .zero, .zero, .flip⟩
/-- `-0aa`: ADD HL,r16 (R173). -/
def selAddHl : Selector := ⟨.keep, .zero, .alu, .alu⟩
/-- `00aa`: ADD SP,e8 and LD HL,SP+e8 (R176, R177). -/
def selSpE8 : Selector := ⟨.zero, .zero, .alu, .alu⟩
/-- `000a`: RLCA, RRCA, RLA, RRA (R178). -/
def selRotA : Selector := ⟨.zero, .zero, .zero, .alu⟩
/-- `a00a`: the prefixed rotates and shifts (R182). -/
def selRot : Selector := ⟨.alu, .zero, .zero, .alu⟩
/-- `a01-`: BIT (R198). -/
def selBit : Selector := ⟨.alu, .zero, .one, .keep⟩

/-- `add(l, r, c0)` (R100). -/
def aluAdd (l r : Byte) (c0 : Bool) : AluResult 8 :=
  let s := l.toNat + r.toNat + c0.toNat
  let value := BitVec.ofNat 8 s
  { value := value
    z := value == 0
    n := false
    h := decide (l.toNat % 16 + r.toNat % 16 + c0.toNat > 0xF)
    c := decide (s > 0xFF) }

/-- `sub(l, r, b0)` (R101). -/
def aluSub (l r : Byte) (b0 : Bool) : AluResult 8 :=
  let value := BitVec.ofInt 8 ((l.toNat : Int) - (r.toNat : Int) - (b0.toNat : Int))
  { value := value
    z := value == 0
    n := true
    h := decide (l.toNat % 16 < r.toNat % 16 + b0.toNat)
    c := decide (l.toNat < r.toNat + b0.toNat) }

/-- `add16L(l, r)`: flags of the low-byte addition (R102). -/
def add16L (l r : Word) : AluResult 16 where
  value := l + r
  z := false
  n := false
  h := decide (l.toNat % 16 + r.toNat % 16 > 0xF)
  c := decide (l.toNat % 256 + r.toNat % 256 > 0xFF)

/-- `add16H(l, r)`: flags of the high-byte addition, with the low addition's carry (R103). -/
def add16H (l r : Word) : AluResult 16 :=
  let cl := (decide (l.toNat % 256 + r.toNat % 256 > 0xFF)).toNat
  { value := l + r
    z := false
    n := false
    h := decide (l.toNat / 256 % 16 + r.toNat / 256 % 16 + cl > 0xF)
    c := decide (l.toNat / 256 + r.toNat / 256 + cl > 0xFF) }

/-- `bcdAdjust(v, n, h, c)` (R104). -/
def bcdAdjust (v : Byte) (n h c : Bool) : AluResult 8 :=
  let fixL := h || (!n && decide (v.toNat % 16 > 9))
  let fixH := c || (!n && decide (v.toNat > 0x99))
  let fix : Byte := BitVec.ofNat 8 (0x60 * fixH.toNat + 0x06 * fixL.toNat)
  let value := if n then v - fix else v + fix
  { value := value, z := value == 0, n := n, h := false, c := fixH }

/-- A result of a function that reports only Z, with H given and N and C clear (R105 to R108). -/
def logicResult (value : Byte) (h : Bool) : AluResult 8 :=
  { value := value, z := value == 0, n := false, h := h, c := false }

/-- `and(l, r)` (R105). -/
def aluAnd (l r : Byte) : AluResult 8 := logicResult (l &&& r) true

/-- `or(l, r)` (R106). -/
def aluOr (l r : Byte) : AluResult 8 := logicResult (l ||| r) false

/-- `xor(l, r)` (R107). -/
def aluXor (l r : Byte) : AluResult 8 := logicResult (l ^^^ r) false

/-- `swap(v)` (R108). -/
def aluSwap (v : Byte) : AluResult 8 := logicResult (((v &&& 0x0F) <<< 4) ||| (v >>> 4)) false

/-- `testBit(v, b)`: no value (R109). -/
def testBit (v : Byte) (b : BitVec 3) : AluResult 0 :=
  { value := 0, z := !v.getLsbD b.toNat, n := false, h := true, c := false }

/-- `setBit(v, b)` (R110). -/
def setBit (v : Byte) (b : BitVec 3) : Byte := v ||| (1#8 <<< b.toNat)

/-- `resBit(v, b)` (R110). -/
def resBit (v : Byte) (b : BitVec 3) : Byte := v &&& complement8 (1#8 <<< b.toNat)

/-- A rotate's or shift's result: the bit ejected is C, N and H are 0, Z is of the value (R111 to R113). -/
def shiftResult (value : Byte) (ejected : Bool) : AluResult 8 :=
  { value := value, z := value == 0, n := false, h := false, c := ejected }

/-- The direction of a rotate (R111). -/
inductive Dir where
  | left
  | right
  deriving DecidableEq, Repr

/-- `rotate(dir, v)` without incoming carry (R111). -/
def rotate (dir : Dir) (v : Byte) : AluResult 8 :=
  match dir with
  | .left => shiftResult (rotl8 v 1) (v.getLsbD 7)
  | .right => shiftResult (rotr8 v 1) (v.getLsbD 0)

/-- `rotate(dir, v, c)` with incoming carry (R112). -/
def rotateThrough (dir : Dir) (v : Byte) (c : Bool) : AluResult 8 :=
  match dir with
  | .left => shiftResult ((v <<< 1) ||| bitAt 0 c) (v.getLsbD 7)
  | .right => shiftResult ((v >>> 1) ||| bitAt 7 c) (v.getLsbD 0)

/-- `shiftLeft(v)` (R113). -/
def shiftLeft (v : Byte) : AluResult 8 := shiftResult (v <<< 1) (v.getLsbD 7)

/-- `shiftRightA(v)`, arithmetic (R113). -/
def shiftRightA (v : Byte) : AluResult 8 := shiftResult ((v >>> 1) ||| (v &&& 0x80)) (v.getLsbD 0)

/-- `shiftRightL(v)`, logical (R113). -/
def shiftRightL (v : Byte) : AluResult 8 := shiftResult (v >>> 1) (v.getLsbD 0)

/-- The packed form: value * 256 + Z*128 + N*64 + H*32 + C*16 (R16). -/
def AluResult.pack {w : Nat} (r : AluResult w) : Nat :=
  r.value.toNat * 256 + r.z.toNat * 128 + r.n.toNat * 64 + r.h.toNat * 32 + r.c.toNat * 16

/-- The result of width `w` a packed number stands for (R16, R115). -/
def AluResult.unpack (w : Nat) (packed : Nat) : AluResult w where
  value := BitVec.ofNat w (packed / 256)
  z := packed.testBit 7
  n := packed.testBit 6
  h := packed.testBit 5
  c := packed.testBit 4

end Sys2Proof.Machine
end

