-- ==== Sys2Proof/Config.lean ====
section
/-! DEFINITION. The implementation parameters of spec 00_scope.md R7 as named constants, and the open
behaviour of the two external bus components (the `CARTRIDGE` and `JOYPAD` parameters) as constants with
no body. The other OPEN parameters (`EI_DELAY`, `BOOT_ROM`, `INIT_MEM`, which cartridge) are data in
`State`, so that a statement over all states is a statement over every value of them. -/

namespace Sys2Proof.Config

/-- `UNMAPPED`: what a bus read no component answers yields (R7, R60). -/
def unmapped : Byte := 0xFF

/-- `NUM_INTERRUPTS`: the interrupt lines, numbered 0..4 (R7, R223). -/
def numInterrupts : Nat := 5

/-- `PREFIX`: the byte that selects the second opcode table (R7, R84). -/
def tableTwoByte : Byte := 0xCB

/-- `INT_SERVICE_CYCLES`: cycles consumed by one interrupt service (R7, R229). -/
def intServiceCycles : Nat := 5

/-- `DIV_INCREMENT`: what the divider advances by each cycle (R7, R36). -/
def divIncrement : Word := 4

/-- `TAC_SELECT`: the divider bit gated by TAC[1:0] (R7, R39). -/
def tacSelect (sel : BitVec 2) : Nat :=
  match sel.toNat with
  | 0 => 9
  | 1 => 3
  | 2 => 5
  | _ => 7

/-- `N2`: cycles of OAM-scan, mode 2, per line (R7, R249). -/
def n2 : Nat := 20

/-- `N3`: cycles of pixel-transfer, mode 3, per line (R7, R249). -/
def n3 : Nat := 43

/-- `N0`: cycles of H-blank, mode 0, per line (R7, R249). -/
def n0 : Nat := 51

/-- `LINE_CYCLES = N2 + N3 + N0` (R7). -/
def lineCycles : Nat := n2 + n3 + n0

/-- `VISIBLE_LINES`: LY 0..143 (R7). -/
def visibleLines : Nat := 144

/-- `VBLANK_LINES`: LY 144..153 (R7). -/
def vblankLines : Nat := 10

/-- `FRAME_CYCLES = LINE_CYCLES * (VISIBLE_LINES + VBLANK_LINES)` (R7, R249). -/
def frameCycles : Nat := lineCycles * (visibleLines + vblankLines)

/-- `LCD_WIDTH`: pixels per row (R7). -/
abbrev lcdWidth : Nat := 160

/-- `LCD_HEIGHT`: rows per frame (R7). -/
abbrev lcdHeight : Nat := 144

/-- `BG_SIZE`: width and height of the background and window map in pixels (R7). -/
def bgSize : Nat := 256

/-- `OAM_ENTRIES`: sprites in the object table (R7). -/
def oamEntries : Nat := 40

/-- `MAX_SPRITES_PER_LINE` (R7, R261). -/
def maxSpritesPerLine : Nat := 10

/-- `DMA_LENGTH`: bytes copied by one OAM DMA (R7, R269). -/
def dmaLength : Nat := 160

/-- One key of the joypad: "8 enumerable buttons arranged as 2 columns of 4 lines each" (R226). -/
structure Key where
  column : Fin 2
  line   : Fin 4
  deriving DecidableEq, Repr

/-- What can happen to the external joypad component (R226, R271): a bus write to its register, or the
host pressing or releasing a key between two calls of `runUntil`. -/
inductive JoyEvent where
  | write (v : Byte)
  | press (k : Key)
  | release (k : Key)
  deriving DecidableEq, Repr

/-- FREE VALUE (log entry 3). What an external cartridge, whose contents and bank switching are outside
the spec (R5, R64), answers at an address of its window after the bus writes it has received so far,
oldest first. Reads have no side effect (R77, D38), so the writes are all its answer can depend on. -/
opaque cartridgeRead : List (Word × Byte) → Word → Byte

/-- FREE VALUE (log entry 4). What the external joypad component answers at 0xFF00 after the events it
has received so far, oldest first (R226: "Its contents are outside this spec"). -/
opaque joypadRead : List JoyEvent → Byte

/-- FREE VALUE (log entry 4). Whether the joypad component raises line 4 at the key press that is the
last of these events (R226: "when exactly it raises the line is the component's own behaviour"). -/
opaque joypadRaises : List JoyEvent → Bool

end Sys2Proof.Config
end

