-- ==== Sys2Proof/Machine/State.lean ====
section
/-! DEFINITION. The machine's state as plain data: everything spec 10_state.md gives the machine (R20 to
R57), the two faults a run can record (R233) and the state after reset (70_reset_and_hazards.md R272).
Operations on it are in the files that import this one. -/

namespace Sys2Proof.Machine

/-- The fault kinds of R233 with the information each records (R14, R35). An instruction that raises a
fault writes the record `State.fault` in a NEXT state, as R219 and R220 say; the step after it answers
with the recorded fault and changes nothing (R14: "a faulted machine takes no further step"). -/
inductive Fault where
  /-- Raised by the CPU executing 0x10 (R219).
  Safe: the source says STOP "must fail fast"; nothing is claimed of the chip's low-power state. -/
  | stopUnimplemented (pc : Word)
  /-- Raised by the CPU executing one of the 11 bytes without an instruction (R220).
  Safe: the chip locks up there, and a stopped machine proves nothing of what follows. -/
  | illegalOpcode (pc : Word) (op : Byte)
  /-- Raised by `runUntil` when the host asks for a target below the simulated cycle (R221, R233).
  Safe: a host error, recorded before any step. -/
  | clockNotMonotonic (cycle : Nat) (target : Nat)
  deriving DecidableEq, Repr

/-- Why the model has no meaning for an instruction. -/
inductive Refusal where
  /-- Raised by an arm of `exec` that has no meaning yet; no arm of this model does.
  Safe: the model stops where the machine goes on. -/
  | notModelled (mnemonic : String)
  deriving DecidableEq, Repr

/-- The eight register slots, in the order R20 names them. -/
inductive Reg8 where
  | a | f | b | c | d | e | h | l
  deriving DecidableEq, Repr

/-- The register file: eight 8-bit slots (R20); the pairs are views of them (R23, R24). -/
structure Regs where
  a : Byte
  f : Byte
  b : Byte
  c : Byte
  d : Byte
  e : Byte
  h : Byte
  l : Byte
  deriving DecidableEq, Repr

/-- The CPU's run state (R33). -/
inductive RunState where
  | running
  | halted
  deriving DecidableEq, Repr

/-- The timer: the 16-bit divider and its three byte registers (R36 to R39). -/
structure Timer where
  div16 : Word
  tima  : Byte
  tma   : Byte
  tac   : Byte
  deriving DecidableEq, Repr

/-- Whether the display is on (R53). -/
inductive LcdState where
  | off
  | on
  deriving DecidableEq, Repr

/-- One shade, 0..3 (R47, R270). -/
abbrev Shade := BitVec 2

/-- One row of an image: `LCD_WIDTH` shades, leftmost first (R53). -/
abbrev Row := Vector Shade Config.lcdWidth

/-- An image: `LCD_HEIGHT` rows, top first (R53). -/
abbrev Image := Vector Row Config.lcdHeight

/-- The image whose every pixel is shade 0 (R53). -/
def Image.blank : Image := Vector.replicate Config.lcdHeight (Vector.replicate Config.lcdWidth 0)

/-- The LCD controller: its registers (R40 to R51) and its internal state (R53). -/
structure Lcd where
  lcdc : Byte
  stat : Byte
  scy  : Byte
  scx  : Byte
  ly   : Byte
  lyc  : Byte
  dma  : Byte
  bgp  : Byte
  obp0 : Byte
  obp1 : Byte
  wy   : Byte
  wx   : Byte
  power           : LcdState
  lineOrigin      : Nat
  winLine         : Nat
  frame           : Image
  latestImage     : Image
  framesCompleted : Nat
  deriving DecidableEq, Repr

/-- The object-attribute-memory DMA engine (R54). -/
structure Dma where
  active : Bool
  source : Word
  index  : Nat
  deriving DecidableEq, Repr

/-- The cartridge parameter (R7, R64). `romOnly` is the component of spec 95_test_vectors.md's premises:
it answers 0x0000-0x7FFF with the bytes of `State.mem` at those addresses, answers 0xA000-0xBFFF with
0xFF and ignores writes. `external` is any other component: `writes` is every bus write to its window so
far, oldest first, and `Config.cartridgeRead` of it is its answer (log entry 3). -/
inductive Cartridge where
  | romOnly
  | external (writes : List (Word × Byte))
  deriving DecidableEq, Repr

/-- Memory: (address, byte) pairs, addresses strictly rising, no byte 0x00 listed (log entry 2). The
addresses are bus addresses: 0x0000-0x7FFF the ROM image of a `romOnly` cartridge, 0x8000-0x9FFF video
RAM, 0xC000-0xDFFF work RAM, 0xFE00-0xFE9F OAM, 0xFF80-0xFFFE high RAM (R63). -/
abbrev Mem := List Host.Cell

/-- Everything the spec gives the machine (INVENTORY.md lists each field with its rule). -/
structure State where
  /-- A, F, B, C, D, E, H, L (R20). -/
  regs : Regs
  /-- The stack pointer (R26). -/
  sp : Word
  /-- The program counter (R27). -/
  pc : Word
  /-- Interrupt enable, at bus address 0xFFFF (R30). -/
  ie : Byte
  /-- Interrupt flag, at bus address 0xFF0F (R31). -/
  iflag : Byte
  /-- Interrupt master enable (R32). -/
  ime : Bool
  /-- Set by EI when `eiDelay` is 1, moved into `ime` by the next instruction (R34). -/
  imePending : Bool
  /-- Running or Halted (R33). -/
  run : RunState
  /-- The cycle at which a running CPU next acts (R33). -/
  nextActive : Nat
  /-- The fault record, empty until a fault is raised (R35). -/
  fault : Option Fault
  timer : Timer
  lcd : Lcd
  dma : Dma
  /-- Whether the boot ROM answers 0x0000-0x00FF (R52). -/
  bootRomEnabled : Bool
  /-- The cartridge component (R64). -/
  cartridge : Cartridge
  /-- What has happened to the joypad component, oldest first (R226). -/
  joypad : List Config.JoyEvent
  /-- Video RAM, work RAM, OAM, high RAM and the ROM image (R66 to R69). -/
  mem : Mem
  /-- Cycles already simulated (R55). -/
  cycle : Nat
  /-- The parameter `EI_DELAY`: false is 0, true is 1 (R7, R34). -/
  eiDelay : Bool
  /-- The parameter `BOOT_ROM`: 256 bytes, or none (R7, R65). -/
  bootRom : Option (Vector Byte 256)
  deriving DecidableEq, Repr

/-- The registers after reset (R272). -/
def Regs.reset : Regs := ⟨0, 0, 0, 0, 0, 0, 0, 0⟩

/-- The timer after reset (R272). -/
def Timer.reset : Timer := ⟨0, 0, 0, 0⟩

/-- The LCD controller after reset: display on, every layer disabled (R40, R53, R272, C1). -/
def Lcd.reset : Lcd where
  lcdc := 0x80
  stat := 0
  scy := 0
  scx := 0
  ly := 0
  lyc := 0
  dma := 0
  bgp := 0
  obp0 := 0
  obp1 := 0
  wy := 0
  wx := 0
  power := .on
  lineOrigin := 0
  winLine := 0
  frame := Image.blank
  latestImage := Image.blank
  framesCompleted := 0

/-- The DMA engine after reset (R54, R272). -/
def Dma.reset : Dma := ⟨false, 0, 0⟩

/-- The machine right after reset with the OPEN parameters as arguments (R7, R272): the boot ROM or none,
the EI delay, the cartridge, and the initial contents of the memories (`INIT_MEM`, with the ROM image of
a `romOnly` cartridge). -/
def State.resetWith (bootRom : Option (Vector Byte 256)) (eiDelay : Bool) (cartridge : Cartridge)
    (mem : Mem) : State where
  regs := Regs.reset
  sp := 0
  pc := 0
  ie := 0
  iflag := 0
  ime := false
  imePending := false
  run := .running
  nextActive := 0
  fault := none
  timer := Timer.reset
  lcd := Lcd.reset
  dma := Dma.reset
  bootRomEnabled := bootRom.isSome
  cartridge := cartridge
  joypad := []
  mem := mem
  cycle := 0
  eiDelay := eiDelay
  bootRom := bootRom

/-- The machine right after reset under the premises of spec 95_test_vectors.md: no boot ROM, `EI_DELAY`
0, a ROM-only cartridge of zeros, memories of zeros (log entries 1, 2, 3 and 5). -/
def State.reset : State := State.resetWith none false .romOnly []

end Sys2Proof.Machine
end

