-- ==== Sys2Proof/Machine/Memory.lean ====
section
/-! DEFINITION. Reading and writing one byte of `Mem`, the canonical list of (address, byte) pairs, and
the form it keeps. What an unlisted address reads as is `Mem.unlisted` (log entry 2). -/

namespace Sys2Proof.Machine

/-- What an address that nothing has written holds: 0x00 (log entry 2, DESIGN CHOICE, unsafe for a
program that reads RAM it has not written; R68 leaves it to the parameter `INIT_MEM`). -/
def Mem.unlisted : Byte := 0

/-- The byte at an address. -/
def Mem.read : Mem → Nat → Byte
  | [], _ => Mem.unlisted
  | (k, v) :: m, a => if a < k then Mem.unlisted else if a = k then v else Mem.read m a

/-- A pair in front, left out where it says what an unlisted address says. -/
def Mem.cons (a : Nat) (v : Byte) (m : Mem) : Mem := if v = Mem.unlisted then m else (a, v) :: m

/-- The memory with one byte written, in canonical form again. -/
def Mem.write : Mem → Nat → Byte → Mem
  | [], a, v => Mem.cons a v []
  | (k, w) :: m, a, v =>
    if a < k then Mem.cons a v ((k, w) :: m)
    else if a = k then Mem.cons a v m
    else (k, w) :: Mem.write m a v

/-- Every listed address is at or above `lo`, addresses rise strictly, and no listed byte is what an
unlisted address reads as. -/
def Mem.wfFrom : Nat → Mem → Bool
  | _, [] => true
  | lo, (k, v) :: m => decide (lo ≤ k) && (v != Mem.unlisted) && Mem.wfFrom (k + 1) m

/-- The canonical form of a memory. -/
def Mem.wf (m : Mem) : Bool := Mem.wfFrom 0 m

/-- The state with one byte of memory written. -/
def State.poke (s : State) (a : Nat) (v : Byte) : State := { s with mem := Mem.write s.mem a v }

end Sys2Proof.Machine
end

