-- ==== Sys2Proof/Machine/Interrupt.lean ====
section
/-! DEFINITION. Raising an interrupt line and the pending-and-enabled set
(spec 60_exceptions.md R223 to R225). -/

namespace Sys2Proof.Machine

/-- `IF <- IF | (1 << i)` (R224). -/
def State.raise (i : Nat) (s : State) : State := { s with iflag := s.iflag ||| (1#8 <<< i) }

/-- `P = IE & IF & 0x1F` (R225). -/
def State.pending (s : State) : Byte := s.ie &&& s.iflag &&& 0x1F

/-- The lowest set bit of a pending set, the line serviced (R225); meaningful when the set is not 0. -/
def lowestLine (p : Byte) : Nat :=
  if p.getLsbD 0 then 0
  else if p.getLsbD 1 then 1
  else if p.getLsbD 2 then 2
  else if p.getLsbD 3 then 3
  else 4

end Sys2Proof.Machine
end

