-- ==== Sys2Proof/Machine/Lcd.lean ====
section
/-! DEFINITION. The LCD controller's modes, its LY = LYC comparison and its registers as the bus sees
them, with the effects of writing LCDC, STAT, LYC and DMA (spec 60_exceptions.md R251 to R255, R268). -/

namespace Sys2Proof.Machine

/-- STAT[1:0] as a mode number (R41). -/
def Lcd.mode (l : Lcd) : BitVec 2 := l.stat.extractLsb' 0 2

/-- STAT with its mode field replaced and its other bits kept (R41). -/
def statWithMode (stat : Byte) (m : BitVec 2) : Byte := (stat &&& 0xFC) ||| m.setWidth 8

/-- `STAT[1:0] <- m` (R251, R253). -/
def State.setMode (m : BitVec 2) (s : State) : State :=
  { s with lcd := { s.lcd with stat := statWithMode s.lcd.stat m } }

/-- Whether STAT enables the request of entering mode m: bits 3, 4, 5 for modes 0, 1, 2 and no bit for
mode 3 (R251, R41). -/
def modeEnabled (stat : Byte) (m : BitVec 2) : Bool :=
  match m.toNat with
  | 0 => stat.getLsbD 3
  | 1 => stat.getLsbD 4
  | 2 => stat.getLsbD 5
  | _ => false

/-- `enterMode(m)` (R251). -/
def State.enterMode (m : BitVec 2) (s : State) : State :=
  if modeEnabled s.lcd.stat m then (s.setMode m).raise 1 else s.setMode m

/-- `lycCompare()` (R252). -/
def State.lycCompare (s : State) : State :=
  let same := decide (s.lcd.ly = s.lcd.lyc)
  let s' : State := { s with lcd := { s.lcd with stat := withBit s.lcd.stat 2 same } }
  if same && s.lcd.stat.getLsbD 6 then s'.raise 1 else s'

/-- What turning the display off does at once (R253). DESIGN CHOICE, safe (log entry 19): R253 says that the frame
under construction is discarded and not whether the rows of `frame` stored so far are cleared and `winLine` reset; both
stay as they are, and the next frame, which starts at line 0 (R254), clears `winLine` and renders every row before
`frame` is next exposed. -/
def State.displayOff (s : State) : State :=
  State.lycCompare (State.setMode 0 { s with lcd := { s.lcd with power := .off, ly := 0 } })

/-- What turning the display on at cycle t does: the state machine restarts at cycle t + 1 (R254). -/
def State.displayOn (s : State) : State :=
  { s with lcd := { s.lcd with power := .on, lineOrigin := s.cycle + 1 } }

/-- A bus write of v to LCDC: the byte is stored, and a change of bit 7 turns the display off or on
(R253, R254). -/
def State.writeLcdc (v : Byte) (s : State) : State :=
  let s' : State := { s with lcd := { s.lcd with lcdc := v } }
  if s.lcd.lcdc.getLsbD 7 && !v.getLsbD 7 then s'.displayOff
  else if !s.lcd.lcdc.getLsbD 7 && v.getLsbD 7 then s'.displayOn
  else s'

/-- A bus write of v to STAT: bits 7..3 are stored and bits 2..0 kept (R41, R255). -/
def State.writeStat (v : Byte) (s : State) : State :=
  { s with lcd := { s.lcd with stat := (v &&& 0xF8) ||| (s.lcd.stat &&& 0x07) } }

/-- A bus write of v to LYC: the byte is stored and the comparison run (R45, R252). -/
def State.writeLyc (v : Byte) (s : State) : State :=
  State.lycCompare { s with lcd := { s.lcd with lyc := v } }

/-- A bus write of v to DMA: a copy from page v starts at index 0, also while one runs (R268). -/
def State.writeDma (v : Byte) (s : State) : State :=
  { s with lcd := { s.lcd with dma := v }, dma := ⟨true, make16 v 0, 0⟩ }

/-- The LCD controller's registers as a bus read sees them (R255). -/
def Lcd.regRead (l : Lcd) (n : Nat) : Option Byte :=
  match n with
  | 0xFF40 => some l.lcdc
  | 0xFF41 => some l.stat
  | 0xFF42 => some l.scy
  | 0xFF43 => some l.scx
  | 0xFF44 => some l.ly
  | 0xFF45 => some l.lyc
  | 0xFF46 => some l.dma
  | 0xFF47 => some l.bgp
  | 0xFF48 => some l.obp0
  | 0xFF49 => some l.obp1
  | 0xFF4A => some l.wy
  | 0xFF4B => some l.wx
  | _ => none

/-- A bus write to an address of the LCD controller's registers; LY is not written (R44, R255). -/
def State.lcdRegWrite (n : Nat) (v : Byte) (s : State) : State :=
  match n with
  | 0xFF40 => s.writeLcdc v
  | 0xFF41 => s.writeStat v
  | 0xFF42 => { s with lcd := { s.lcd with scy := v } }
  | 0xFF43 => { s with lcd := { s.lcd with scx := v } }
  | 0xFF45 => s.writeLyc v
  | 0xFF46 => s.writeDma v
  | 0xFF47 => { s with lcd := { s.lcd with bgp := v } }
  | 0xFF48 => { s with lcd := { s.lcd with obp0 := v } }
  | 0xFF49 => { s with lcd := { s.lcd with obp1 := v } }
  | 0xFF4A => { s with lcd := { s.lcd with wy := v } }
  | 0xFF4B => { s with lcd := { s.lcd with wx := v } }
  | _ => s

end Sys2Proof.Machine
end

