-- ==== Sys2Proof/Machine/Timer.lean ====
section
/-! DEFINITION. The timer: its counting signal, its step and the effects of writing DIV and TAC
(spec 60_exceptions.md R243 to R248). -/

namespace Sys2Proof.Machine

/-- "gated bit is high AND timer enabled" (R243). -/
def timerSignal (d : Word) (tac : Byte) : Bool :=
  tac.getLsbD 2 && d.getLsbD (Config.tacSelect (tac.extractLsb' 0 2))

/-- `incrementTIMA` (R245): on 0xFF the reload from TMA and the request of line 2, in one step. -/
def State.incrementTima (s : State) : State :=
  if s.timer.tima = 0xFF then
    State.raise 2 { s with timer := { s.timer with tima := s.timer.tma } }
  else { s with timer := { s.timer with tima := s.timer.tima + 1 } }

/-- Change the divider and TAC and count the high-to-low transition of the counting signal across the
change: the "identical" edge condition of the timer's step, of a DIV write and of a TAC write
(R244, R246, R247). -/
def State.timerEdge (d : Word) (tac : Byte) (s : State) : State :=
  let s' : State := { s with timer := { s.timer with div16 := d, tac := tac } }
  if timerSignal s.timer.div16 s.timer.tac && !timerSignal d tac then s'.incrementTima else s'

/-- The timer's step at every cycle (R244). -/
def timerStep (s : State) : State :=
  s.timerEdge (s.timer.div16 + Config.divIncrement) s.timer.tac

/-- A bus write of any value to DIV (R246). -/
def State.writeDiv (s : State) : State := s.timerEdge 0 s.timer.tac

/-- A bus write of v to TAC (R247). -/
def State.writeTac (v : Byte) (s : State) : State := s.timerEdge s.timer.div16 v

/-- The timer's answer to a bus read (R248; DIV is bits 15..8 of the divider, R36). -/
def Timer.regRead (t : Timer) (n : Nat) : Option Byte :=
  match n with
  | 0xFF04 => some (hi8 t.div16)
  | 0xFF05 => some t.tima
  | 0xFF06 => some t.tma
  | 0xFF07 => some t.tac
  | _ => none

/-- A bus write as the timer takes it (R246 to R248). -/
def State.timerWrite (n : Nat) (v : Byte) (s : State) : State :=
  match n with
  | 0xFF04 => s.writeDiv
  | 0xFF05 => { s with timer := { s.timer with tima := v } }
  | 0xFF06 => { s with timer := { s.timer with tma := v } }
  | 0xFF07 => s.writeTac v
  | _ => s

end Sys2Proof.Machine
end

