-- ==== Sys2Proof/Machine/Bus.lean ====
section
/-! DEFINITION. The bus: an ordered list of components, read by the first that answers and written by
broadcast (spec 20_memory.md R58 to R61), and what each component owns (R63 to R70, R77). -/

namespace Sys2Proof.Machine

/-- The components of this machine (R63). -/
inductive Component where
  | bootRom
  | cartridge
  | workRam
  | joypad
  | timer
  | lcd
  | cpu
  deriving DecidableEq, Repr

/-- Whether the boot ROM answers 0x0000-0x00FF: it is given and has not been disabled (R52, R65). -/
def State.overlayOn (s : State) : Bool := s.bootRomEnabled && s.bootRom.isSome

/-- `BOOT_ROM[addr]` (R65). -/
def State.bootByte (s : State) (n : Nat) : Option Byte := s.bootRom.bind (fun rom => rom[n]?)

/-- Whether an address lies in the cartridge's window, 0x0000-0x7FFF and 0xA000-0xBFFF (R63, R64). -/
def inCartridge (n : Nat) : Bool := decide (n < 0x8000) || (decide (0xA000 ≤ n) && decide (n < 0xC000))

/-- The cartridge's answer at an address of its window (R64; the two kinds are log entry 3). -/
def State.cartridgeByte (s : State) (a : Word) : Byte :=
  match s.cartridge with
  | .romOnly => if a.toNat < 0x8000 then Mem.read s.mem a.toNat else 0xFF
  | .external writes => Config.cartridgeRead writes a

/-- A write to the cartridge's window (R64, D39). -/
def State.cartridgeWrite (a : Word) (v : Byte) (s : State) : State :=
  match s.cartridge with
  | .romOnly => s
  | .external writes => { s with cartridge := .external (writes ++ [(a, v)]) }

/-- Where work RAM keeps the byte of an address: the echo range is the mirror of 0xC000-0xDDFF (R68). -/
def workRamPlace (n : Nat) : Option Nat :=
  if 0xC000 ≤ n ∧ n < 0xE000 then some n
  else if 0xE000 ≤ n ∧ n < 0xFE00 then some (n - 0x2000)
  else none

/-- Video RAM and OAM (R66, R67). -/
def inLcdMemory (n : Nat) : Bool :=
  (decide (0x8000 ≤ n) && decide (n < 0xA000)) || (decide (0xFE00 ≤ n) && decide (n < 0xFEA0))

/-- High RAM (R69). -/
def inHighRam (n : Nat) : Bool := decide (0xFF80 ≤ n) && decide (n < 0xFFFF)

/-- `read(address)` of one component: a byte exactly for the addresses it owns, else "no data" (R59). -/
def Component.read (s : State) (a : Word) (c : Component) : Option Byte :=
  match c with
  | .bootRom => if s.overlayOn && decide (a.toNat < 0x100) then s.bootByte a.toNat else none
  | .cartridge =>
    if inCartridge a.toNat && !(s.overlayOn && decide (a.toNat < 0x100)) then some (s.cartridgeByte a)
    else none
  | .workRam => (workRamPlace a.toNat).map (Mem.read s.mem)
  | .joypad => if a.toNat = 0xFF00 then some (Config.joypadRead s.joypad) else none
  | .timer => s.timer.regRead a.toNat
  | .lcd => if inLcdMemory a.toNat then some (Mem.read s.mem a.toNat) else s.lcd.regRead a.toNat
  | .cpu =>
    if inHighRam a.toNat then some (Mem.read s.mem a.toNat)
    else if a.toNat = 0xFF0F then some s.iflag
    else if a.toNat = 0xFFFF then some s.ie
    else none

/-- `write(address, byte)` of one component: ignored at an address it does not own (R59, R61). -/
def Component.write (a : Word) (v : Byte) (s : State) (c : Component) : State :=
  match c with
  | .bootRom => if a.toNat = 0xFF50 then { s with bootRomEnabled := false } else s
  | .cartridge => if inCartridge a.toNat then s.cartridgeWrite a v else s
  | .workRam => (workRamPlace a.toNat).elim s (fun place => s.poke place v)
  | .joypad => if a.toNat = 0xFF00 then { s with joypad := s.joypad ++ [.write v] } else s
  | .timer => s.timerWrite a.toNat v
  | .lcd => if inLcdMemory a.toNat then s.poke a.toNat v else s.lcdRegWrite a.toNat v
  | .cpu =>
    if inHighRam a.toNat then s.poke a.toNat v
    else if a.toNat = 0xFF0F then { s with iflag := v }
    else if a.toNat = 0xFFFF then { s with ie := v }
    else s

/-- The attached components in attachment order (R58, R63). -/
def busComponents : List Component := [.bootRom, .cartridge, .workRam, .joypad, .timer, .lcd, .cpu]

/-- A read of a bus with these components: the first that answers, else the unmapped value (R60). -/
def busReadFrom (cs : List Component) (s : State) (a : Word) : Byte :=
  (cs.findSome? (Component.read s a)).getD Config.unmapped

/-- A write to a bus with these components: broadcast to every one in attachment order (R61). -/
def busWriteTo (cs : List Component) (a : Word) (v : Byte) (s : State) : State :=
  cs.foldl (Component.write a v) s

/-- `MemRead(addr, 1)` (R13, R60). -/
def State.busRead (s : State) (a : Word) : Byte := busReadFrom busComponents s a

/-- `MemWrite(addr, 1, v)` (R13, R61). -/
def State.busWrite (a : Word) (v : Byte) (s : State) : State := busWriteTo busComponents a v s

/-- `MemRead(addr, 2)`: little-endian, wrapping at 0xFFFF (R13, R72, R73). -/
def State.busRead16 (s : State) (a : Word) : Word := make16 (s.busRead (a + 1)) (s.busRead a)

/-- `MemWrite(addr, 2, v)`: the low byte first (R13, R136). -/
def State.busWrite16 (a : Word) (v : Word) (s : State) : State :=
  (s.busWrite a (lo8 v)).busWrite (a + 1) (hi8 v)

end Sys2Proof.Machine
end

