-- ==== Sys2Proof/Machine/Ops.lean ====
section
/-! DEFINITION. Named operations on the CPU's registers, the stack, the end of an instruction, raising a
fault, and taking an interrupt with the return from it
(spec 10_state.md R20 to R27, 41_loads.md R138 and R139, 60_exceptions.md R229 to R233, R236). -/

namespace Sys2Proof.Machine

/-- `x[r]` for an 8-bit register (R21). -/
def Regs.get (x : Regs) : Reg8 → Byte
  | .a => x.a
  | .f => x.f
  | .b => x.b
  | .c => x.c
  | .d => x.d
  | .e => x.e
  | .h => x.h
  | .l => x.l

/-- `x[r] <- v` for an 8-bit register: F keeps its low four bits zero (R22). -/
def Regs.set (x : Regs) (r : Reg8) (v : Byte) : Regs :=
  match r with
  | .a => { x with a := v }
  | .f => { x with f := v &&& 0xF0 }
  | .b => { x with b := v }
  | .c => { x with c := v }
  | .d => { x with d := v }
  | .e => { x with e := v }
  | .h => { x with h := v }
  | .l => { x with l := v }

/-- `x[r]` of the machine (R21). -/
def State.reg (s : State) (r : Reg8) : Byte := s.regs.get r

/-- `x[r] <- v` of the machine (R22). -/
def State.setReg (r : Reg8) (v : Byte) (s : State) : State := { s with regs := s.regs.set r v }

/-- A register pair as its high and its low slot (R23). -/
def State.pair (s : State) (hi lo : Reg8) : Word := make16 (s.reg hi) (s.reg lo)

/-- Writing a pair writes both slots (R24). -/
def State.setPair (hi lo : Reg8) (v : Word) (s : State) : State :=
  (s.setReg hi (hi8 v)).setReg lo (lo8 v)

/-- `x[HL]` (R23). -/
def State.hl (s : State) : Word := s.pair .h .l

/-- `x[HL] <- v` (R24). -/
def State.setHl (v : Word) (s : State) : State := s.setPair .h .l v

/-- `SP <- v` (R26). -/
def State.setSp (v : Word) (s : State) : State := { s with sp := v }

/-- `pc <- target` (R15, R27). -/
def State.setPc (target : Word) (s : State) : State := { s with pc := target }

/-- `IME <- b` (R32). -/
def State.setIme (b : Bool) (s : State) : State := { s with ime := b }

/-- `imePending <- b` (R34). -/
def State.setImePending (b : Bool) (s : State) : State := { s with imePending := b }

/-- `pushWord(v)`: SP decremented by 2, then the high byte at SP + 1, then the low byte at SP
(R138; 45_control.md's conventions). -/
def State.pushWord (v : Word) (s : State) : State :=
  let s' := s.setSp (s.sp - 2)
  (s'.busWrite (s'.sp + 1) (hi8 v)).busWrite s'.sp (lo8 v)

/-- The word `popWord()` returns: low byte at SP, high byte at SP + 1 (R139; 45_control.md). -/
def State.stackTop (s : State) : Word := make16 (s.busRead (s.sp + 1)) (s.busRead s.sp)

/-- What `popWord()` does to SP (R139; 45_control.md). -/
def State.dropWord (s : State) : State := s.setSp (s.sp + 2)

/-- `nextActive <- t + cycles` (R230, R232). -/
def State.spend (cycles : Nat) (s : State) : State := { s with nextActive := s.cycle + cycles }

/-- With `EI_DELAY` 1, the end of the instruction after EI sets IME (R217, R230). A DI or RETI has cleared
`imePending` by then, so that "EI; DI leaves IME = 0" (R216, R217; log entry 6, DEDUCED). -/
def State.promote (s : State) : State :=
  if s.eiDelay && s.imePending then (s.setIme true).setImePending false else s

/-- The end of an instruction that set no PC: PC moves past its bytes and its cycles are charged
(R230, R231, R232). -/
def State.retire (length cycles : Nat) (s : State) : State :=
  ((s.setPc (s.pc + BitVec.ofNat 16 length)).spend cycles).promote

/-- The end of an instruction that set PC to `target`: no length is added (R15, R230, R231). -/
def State.jump (target : Word) (cycles : Nat) (s : State) : State :=
  ((s.setPc target).spend cycles).promote

/-- `raise Fault(kind, info)`: the record is written once and never cleared (R14, R35). -/
def State.raiseFault (f : Fault) (s : State) : State := { s with fault := s.fault <|> some f }

/-- `0x0040 + 8 * i`, the service routine of line i (R229, R71). -/
def vectorOf (i : Nat) : Word := BitVec.ofNat 16 (0x40 + 8 * i)

/-- TAKING AN INTERRUPT (R229): the lowest line of the pending set is taken, IME and its IF bit are
cleared, PC is pushed high byte first, PC becomes the line's vector and 5 cycles are charged. With
`EI_DELAY` 1 the service also clears `imePending`. -/
def State.serviceInterrupt (s : State) : State :=
  let i := lowestLine s.pending
  let s1 : State := { s with ime := false, imePending := false, iflag := s.iflag &&& complement8 (1#8 <<< i) }
  ((s1.pushWord s.pc).setPc (vectorOf i)).spend Config.intServiceCycles

/-- RETURNING FROM AN INTERRUPT, beside its entry (R213, R236): the pushed PC is popped and IME set at
once; `imePending` is cleared (R213). The registers and flags are not restored. -/
def State.returnFromInterrupt (cycles : Nat) (s : State) : State :=
  State.jump s.stackTop cycles ((s.dropWord.setIme true).setImePending false)

end Sys2Proof.Machine
end

