-- ==== Sys2Proof/Machine/Operands.lean ====
section
/-! DEFINITION. The operand forms of the instruction set: 8-bit operands with (HL), register pairs,
indirect accumulator addresses, condition codes and the operation fields (spec 30_encoding.md R87 to R93,
10_state.md R29). -/

namespace Sys2Proof.Machine

/-- An 8-bit operand (R88): a register, or the byte at the address in HL. -/
inductive R8 where
  | b | c | d | e | h | l | atHl | a
  deriving DecidableEq, Repr

/-- An operand field decoded (R88). -/
def r8OfField (z : BitVec 3) : R8 :=
  match z.toNat with
  | 0 => .b
  | 1 => .c
  | 2 => .d
  | 3 => .e
  | 4 => .h
  | 5 => .l
  | 6 => .atHl
  | _ => .a

/-- The operand's byte: `x[z]`, or `MemRead(x[HL], 1)` (R88). -/
def State.readR8 (s : State) (o : R8) : Byte :=
  match o with
  | .b => s.reg .b
  | .c => s.reg .c
  | .d => s.reg .d
  | .e => s.reg .e
  | .h => s.reg .h
  | .l => s.reg .l
  | .atHl => s.busRead s.hl
  | .a => s.reg .a

/-- Writing the operand: `x[y] <- v`, or `MemWrite(x[HL], 1, v)` (R88). -/
def State.writeR8 (o : R8) (v : Byte) (s : State) : State :=
  match o with
  | .b => s.setReg .b v
  | .c => s.setReg .c v
  | .d => s.setReg .d v
  | .e => s.setReg .e v
  | .h => s.setReg .h v
  | .l => s.setReg .l v
  | .atHl => s.busWrite s.hl v
  | .a => s.setReg .a v

/-- The cycles of a form whose register and (HL) variants cost differently. -/
def R8.cost (o : R8) (register memory : Nat) : Nat :=
  match o with
  | .atHl => memory
  | _ => register

/-- A 16-bit operand of LD r16,n16, ADD HL,r16, INC r16 and DEC r16 (R89). -/
inductive R16 where
  | bc | de | hl | sp
  deriving DecidableEq, Repr

/-- The field p as a 16-bit operand (R89). -/
def r16OfField (p : BitVec 2) : R16 :=
  match p.toNat with
  | 0 => .bc
  | 1 => .de
  | 2 => .hl
  | _ => .sp

/-- `r16(p)` read (R23, R26, R89). -/
def State.readR16 (s : State) (o : R16) : Word :=
  match o with
  | .bc => s.pair .b .c
  | .de => s.pair .d .e
  | .hl => s.hl
  | .sp => s.sp

/-- `r16(p) <- v` (R24, R26, R89). -/
def State.writeR16 (o : R16) (v : Word) (s : State) : State :=
  match o with
  | .bc => s.setPair .b .c v
  | .de => s.setPair .d .e v
  | .hl => s.setHl v
  | .sp => s.setSp v

/-- A 16-bit operand of PUSH and POP (R89). -/
inductive R16Stk where
  | bc | de | hl | af
  deriving DecidableEq, Repr

/-- The field p as a stack operand (R89). -/
def r16StkOfField (p : BitVec 2) : R16Stk :=
  match p.toNat with
  | 0 => .bc
  | 1 => .de
  | 2 => .hl
  | _ => .af

/-- `x[r16stk(p)]` (R23, R89). -/
def State.readR16Stk (s : State) (o : R16Stk) : Word :=
  match o with
  | .bc => s.pair .b .c
  | .de => s.pair .d .e
  | .hl => s.hl
  | .af => s.pair .a .f

/-- `x[r16stk(p)] <- v`; AF keeps F's low nibble zero (R22, R24, R89). -/
def State.writeR16Stk (o : R16Stk) (v : Word) (s : State) : State :=
  match o with
  | .bc => s.setPair .b .c v
  | .de => s.setPair .d .e v
  | .hl => s.setHl v
  | .af => s.setPair .a .f v

/-- The address of an indirect accumulator load or store (R89). -/
inductive IndAddr where
  | bc | de | hlInc | hlDec
  deriving DecidableEq, Repr

/-- The field p as an indirect address (R89). -/
def indAddrOfField (p : BitVec 2) : IndAddr :=
  match p.toNat with
  | 0 => .bc
  | 1 => .de
  | 2 => .hlInc
  | _ => .hlDec

/-- The address accessed (R121 to R128). -/
def State.indAddress (s : State) (o : IndAddr) : Word :=
  match o with
  | .bc => s.pair .b .c
  | .de => s.pair .d .e
  | .hlInc => s.hl
  | .hlDec => s.hl

/-- HL after the access of the (HL+) and (HL-) forms, wrapping (R125 to R128). -/
def State.indUpdate (o : IndAddr) (s : State) : State :=
  match o with
  | .bc => s
  | .de => s
  | .hlInc => s.setHl (s.hl + 1)
  | .hlDec => s.setHl (s.hl - 1)

/-- A condition code (R29, R90). -/
inductive Cond where
  | nz | z | nc | c
  deriving DecidableEq, Repr

/-- A condition field decoded (R90). -/
def condOfField (cc : BitVec 2) : Cond :=
  match cc.toNat with
  | 0 => .nz
  | 1 => .z
  | 2 => .nc
  | _ => .c

/-- Whether a condition holds of the flags (R29). -/
def Cond.holds (cc : Cond) (f : Byte) : Bool :=
  match cc with
  | .nz => !flagZ f
  | .z => flagZ f
  | .nc => !flagC f
  | .c => flagC f

/-- The ALU operations of the 8-bit block (R91). -/
inductive AluOp where
  | add | adc | sub | sbc | and | xor | or | cp
  deriving DecidableEq, Repr

/-- The ALU operation field decoded (R91). -/
def aluOpOfField (y : BitVec 3) : AluOp :=
  match y.toNat with
  | 0 => .add
  | 1 => .adc
  | 2 => .sub
  | 3 => .sbc
  | 4 => .and
  | 5 => .xor
  | 6 => .or
  | _ => .cp

/-- The operation's ALU function on A, the operand and the incoming carry (R141 to R164). -/
def AluOp.result (k : AluOp) (a v : Byte) (carry : Bool) : AluResult 8 :=
  match k with
  | .add => aluAdd a v false
  | .adc => aluAdd a v carry
  | .sub => aluSub a v false
  | .sbc => aluSub a v carry
  | .and => aluAnd a v
  | .xor => aluXor a v
  | .or => aluOr a v
  | .cp => aluSub a v false

/-- The operation's flag selector (R141 to R164). -/
def AluOp.selector (k : AluOp) : Selector :=
  match k with
  | .add => selAdd
  | .adc => selAdd
  | .sub => selSub
  | .sbc => selSub
  | .and => selAnd
  | .xor => selOr
  | .or => selOr
  | .cp => selSub

/-- Whether the operation writes A: every one but CP (R153). -/
def AluOp.writesA (k : AluOp) : Bool :=
  match k with
  | .cp => false
  | _ => true

/-- The prefixed rotates, shifts and swap (R92). -/
inductive RotOp where
  | rlc | rrc | rl | rr | sla | sra | swap | srl
  deriving DecidableEq, Repr

/-- The rotate field decoded (R92). -/
def rotOpOfField (y : BitVec 3) : RotOp :=
  match y.toNat with
  | 0 => .rlc
  | 1 => .rrc
  | 2 => .rl
  | 3 => .rr
  | 4 => .sla
  | 5 => .sra
  | 6 => .swap
  | _ => .srl

/-- The operation's ALU function on the operand and the C flag (R182 to R197). -/
def RotOp.result (k : RotOp) (v : Byte) (carry : Bool) : AluResult 8 :=
  match k with
  | .rlc => rotate .left v
  | .rrc => rotate .right v
  | .rl => rotateThrough .left v carry
  | .rr => rotateThrough .right v carry
  | .sla => shiftLeft v
  | .sra => shiftRightA v
  | .swap => aluSwap v
  | .srl => shiftRightL v

/-- The operation's flag selector (R182 to R197). -/
def RotOp.selector (k : RotOp) : Selector :=
  match k with
  | .swap => selOr
  | _ => selRot

/-- `F <- flags(sel, r)` (R140). -/
def State.setFlags {w : Nat} (sel : Selector) (r : AluResult w) (s : State) : State :=
  s.setReg .f (flags sel r (s.reg .f))

/-- The C flag of the machine (R28). -/
def State.carry (s : State) : Bool := flagC (s.reg .f)

end Sys2Proof.Machine
end

