-- ==== Sys2Proof/Machine/Loads.lean ====
section
/-! DEFINITION. Loads, stores and stack transfers (spec 41_loads.md R116 to R139): the shared operations,
then one definition per instruction. No instruction here sets PC or writes a flag, but for POP AF. -/

namespace Sys2Proof.Machine

/-- What an instruction's meaning answers. -/
abbrev Result := Host.Outcome State Fault Refusal

/-- `LD r8,r8'`, `LD r8,(HL)` and `LD (HL),r8` (R116, R118, R119). -/
def loadR8 (dst src : R8) (s : State) : State :=
  (s.writeR8 dst (s.readR8 src)).retire 1 (max (dst.cost 1 2) (src.cost 1 2))

/-- `LD r8,n8` and `LD (HL),n8` (R117, R120). -/
def loadN8 (dst : R8) (n8 : Byte) (s : State) : State := (s.writeR8 dst n8).retire 2 (dst.cost 2 3)

/-- `LD A,(BC)`, `(DE)`, `(HL+)`, `(HL-)` (R121, R122, R125, R126). -/
def loadIndirect (p : IndAddr) (s : State) : State :=
  ((s.setReg .a (s.busRead (s.indAddress p))).indUpdate p).retire 1 2

/-- `LD (BC),A`, `(DE)`, `(HL+)`, `(HL-)` (R123, R124, R127, R128). -/
def storeIndirect (p : IndAddr) (s : State) : State :=
  ((s.busWrite (s.indAddress p) (s.reg .a)).indUpdate p).retire 1 2

/-- `LD A,(n16)` (R129). -/
def loadAbsolute (n16 : Word) (s : State) : State := (s.setReg .a (s.busRead n16)).retire 3 4

/-- `LD (n16),A` (R130). -/
def storeAbsolute (n16 : Word) (s : State) : State := (s.busWrite n16 (s.reg .a)).retire 3 4

/-- The high-page address `0xFF00 + n8` (R93). -/
def highPage (n8 : Byte) : Word := 0xFF00 + zext16 n8

/-- `LDH A,(n8)` (R131). -/
def loadHighN8 (n8 : Byte) (s : State) : State := (s.setReg .a (s.busRead (highPage n8))).retire 2 3

/-- `LDH (n8),A` (R132). -/
def storeHighN8 (n8 : Byte) (s : State) : State := (s.busWrite (highPage n8) (s.reg .a)).retire 2 3

/-- `LDH A,(C)` (R133). -/
def loadHighC (s : State) : State := (s.setReg .a (s.busRead (highPage (s.reg .c)))).retire 1 2

/-- `LDH (C),A` (R134). -/
def storeHighC (s : State) : State := (s.busWrite (highPage (s.reg .c)) (s.reg .a)).retire 1 2

/-- `LD r16,n16` (R135). -/
def loadR16 (dst : R16) (n16 : Word) (s : State) : State := (s.writeR16 dst n16).retire 3 3

/-- `LD (n16),SP`: the low byte first (R136). -/
def storeSp (n16 : Word) (s : State) : State := (s.busWrite16 n16 s.sp).retire 3 5

/-- `LD SP,HL` (R137). -/
def loadSpHl (s : State) : State := (s.setSp s.hl).retire 1 2

/-- `PUSH r16stk` (R138). -/
def pushR16 (src : R16Stk) (s : State) : State := (s.pushWord (s.readR16Stk src)).retire 1 4

/-- `POP r16stk` (R139). -/
def popR16 (dst : R16Stk) (s : State) : State := (s.dropWord.writeR16Stk dst s.stackTop).retire 1 3

/-- `LD BC,n16` (R135). -/
def execLdBcN16 (n16 : Word) (s : State) : Result := .next (loadR16 .bc n16 s)

/-- `LD (BC),A` (R123). -/
def execLdAtBcA (s : State) : Result := .next (storeIndirect .bc s)

/-- `LD B,n8` (R117). -/
def execLdBN8 (n8 : Byte) (s : State) : Result := .next (loadN8 .b n8 s)

/-- `LD (n16),SP` (R136). -/
def execLdAtN16Sp (n16 : Word) (s : State) : Result := .next (storeSp n16 s)

/-- `LD A,(BC)` (R121). -/
def execLdAAtBc (s : State) : Result := .next (loadIndirect .bc s)

/-- `LD C,n8` (R117). -/
def execLdCN8 (n8 : Byte) (s : State) : Result := .next (loadN8 .c n8 s)

/-- `LD DE,n16` (R135). -/
def execLdDeN16 (n16 : Word) (s : State) : Result := .next (loadR16 .de n16 s)

/-- `LD (DE),A` (R124). -/
def execLdAtDeA (s : State) : Result := .next (storeIndirect .de s)

/-- `LD D,n8` (R117). -/
def execLdDN8 (n8 : Byte) (s : State) : Result := .next (loadN8 .d n8 s)

/-- `LD A,(DE)` (R122). -/
def execLdAAtDe (s : State) : Result := .next (loadIndirect .de s)

/-- `LD E,n8` (R117). -/
def execLdEN8 (n8 : Byte) (s : State) : Result := .next (loadN8 .e n8 s)

/-- `LD HL,n16` (R135). -/
def execLdHlN16 (n16 : Word) (s : State) : Result := .next (loadR16 .hl n16 s)

/-- `LD (HL+),A` (R127). -/
def execLdAtHliA (s : State) : Result := .next (storeIndirect .hlInc s)

/-- `LD H,n8` (R117). -/
def execLdHN8 (n8 : Byte) (s : State) : Result := .next (loadN8 .h n8 s)

/-- `LD A,(HL+)` (R125). -/
def execLdAAtHli (s : State) : Result := .next (loadIndirect .hlInc s)

/-- `LD L,n8` (R117). -/
def execLdLN8 (n8 : Byte) (s : State) : Result := .next (loadN8 .l n8 s)

/-- `LD SP,n16` (R135). -/
def execLdSpN16 (n16 : Word) (s : State) : Result := .next (loadR16 .sp n16 s)

/-- `LD (HL-),A` (R128). -/
def execLdAtHldA (s : State) : Result := .next (storeIndirect .hlDec s)

/-- `LD (HL),n8` (R120). -/
def execLdAtHlN8 (n8 : Byte) (s : State) : Result := .next (loadN8 .atHl n8 s)

/-- `LD A,(HL-)` (R126). -/
def execLdAAtHld (s : State) : Result := .next (loadIndirect .hlDec s)

/-- `LD A,n8` (R117). -/
def execLdAN8 (n8 : Byte) (s : State) : Result := .next (loadN8 .a n8 s)

/-- `LD B,B` (R116). -/
def execLdBB (s : State) : Result := .next (loadR8 .b .b s)

/-- `LD B,C` (R116). -/
def execLdBC (s : State) : Result := .next (loadR8 .b .c s)

/-- `LD B,D` (R116). -/
def execLdBD (s : State) : Result := .next (loadR8 .b .d s)

/-- `LD B,E` (R116). -/
def execLdBE (s : State) : Result := .next (loadR8 .b .e s)

/-- `LD B,H` (R116). -/
def execLdBH (s : State) : Result := .next (loadR8 .b .h s)

/-- `LD B,L` (R116). -/
def execLdBL (s : State) : Result := .next (loadR8 .b .l s)

/-- `LD B,(HL)` (R118). -/
def execLdBAtHl (s : State) : Result := .next (loadR8 .b .atHl s)

/-- `LD B,A` (R116). -/
def execLdBA (s : State) : Result := .next (loadR8 .b .a s)

/-- `LD C,B` (R116). -/
def execLdCB (s : State) : Result := .next (loadR8 .c .b s)

/-- `LD C,C` (R116). -/
def execLdCC (s : State) : Result := .next (loadR8 .c .c s)

/-- `LD C,D` (R116). -/
def execLdCD (s : State) : Result := .next (loadR8 .c .d s)

/-- `LD C,E` (R116). -/
def execLdCE (s : State) : Result := .next (loadR8 .c .e s)

/-- `LD C,H` (R116). -/
def execLdCH (s : State) : Result := .next (loadR8 .c .h s)

/-- `LD C,L` (R116). -/
def execLdCL (s : State) : Result := .next (loadR8 .c .l s)

/-- `LD C,(HL)` (R118). -/
def execLdCAtHl (s : State) : Result := .next (loadR8 .c .atHl s)

/-- `LD C,A` (R116). -/
def execLdCA (s : State) : Result := .next (loadR8 .c .a s)

/-- `LD D,B` (R116). -/
def execLdDB (s : State) : Result := .next (loadR8 .d .b s)

/-- `LD D,C` (R116). -/
def execLdDC (s : State) : Result := .next (loadR8 .d .c s)

/-- `LD D,D` (R116). -/
def execLdDD (s : State) : Result := .next (loadR8 .d .d s)

/-- `LD D,E` (R116). -/
def execLdDE (s : State) : Result := .next (loadR8 .d .e s)

/-- `LD D,H` (R116). -/
def execLdDH (s : State) : Result := .next (loadR8 .d .h s)

/-- `LD D,L` (R116). -/
def execLdDL (s : State) : Result := .next (loadR8 .d .l s)

/-- `LD D,(HL)` (R118). -/
def execLdDAtHl (s : State) : Result := .next (loadR8 .d .atHl s)

/-- `LD D,A` (R116). -/
def execLdDA (s : State) : Result := .next (loadR8 .d .a s)

/-- `LD E,B` (R116). -/
def execLdEB (s : State) : Result := .next (loadR8 .e .b s)

/-- `LD E,C` (R116). -/
def execLdEC (s : State) : Result := .next (loadR8 .e .c s)

/-- `LD E,D` (R116). -/
def execLdED (s : State) : Result := .next (loadR8 .e .d s)

/-- `LD E,E` (R116). -/
def execLdEE (s : State) : Result := .next (loadR8 .e .e s)

/-- `LD E,H` (R116). -/
def execLdEH (s : State) : Result := .next (loadR8 .e .h s)

/-- `LD E,L` (R116). -/
def execLdEL (s : State) : Result := .next (loadR8 .e .l s)

/-- `LD E,(HL)` (R118). -/
def execLdEAtHl (s : State) : Result := .next (loadR8 .e .atHl s)

/-- `LD E,A` (R116). -/
def execLdEA (s : State) : Result := .next (loadR8 .e .a s)

/-- `LD H,B` (R116). -/
def execLdHB (s : State) : Result := .next (loadR8 .h .b s)

/-- `LD H,C` (R116). -/
def execLdHC (s : State) : Result := .next (loadR8 .h .c s)

/-- `LD H,D` (R116). -/
def execLdHD (s : State) : Result := .next (loadR8 .h .d s)

/-- `LD H,E` (R116). -/
def execLdHE (s : State) : Result := .next (loadR8 .h .e s)

/-- `LD H,H` (R116). -/
def execLdHH (s : State) : Result := .next (loadR8 .h .h s)

/-- `LD H,L` (R116). -/
def execLdHL (s : State) : Result := .next (loadR8 .h .l s)

/-- `LD H,(HL)` (R118). -/
def execLdHAtHl (s : State) : Result := .next (loadR8 .h .atHl s)

/-- `LD H,A` (R116). -/
def execLdHA (s : State) : Result := .next (loadR8 .h .a s)

/-- `LD L,B` (R116). -/
def execLdLB (s : State) : Result := .next (loadR8 .l .b s)

/-- `LD L,C` (R116). -/
def execLdLC (s : State) : Result := .next (loadR8 .l .c s)

/-- `LD L,D` (R116). -/
def execLdLD (s : State) : Result := .next (loadR8 .l .d s)

/-- `LD L,E` (R116). -/
def execLdLE (s : State) : Result := .next (loadR8 .l .e s)

/-- `LD L,H` (R116). -/
def execLdLH (s : State) : Result := .next (loadR8 .l .h s)

/-- `LD L,L` (R116). -/
def execLdLL (s : State) : Result := .next (loadR8 .l .l s)

/-- `LD L,(HL)` (R118). -/
def execLdLAtHl (s : State) : Result := .next (loadR8 .l .atHl s)

/-- `LD L,A` (R116). -/
def execLdLA (s : State) : Result := .next (loadR8 .l .a s)

/-- `LD (HL),B` (R119). -/
def execLdAtHlB (s : State) : Result := .next (loadR8 .atHl .b s)

/-- `LD (HL),C` (R119). -/
def execLdAtHlC (s : State) : Result := .next (loadR8 .atHl .c s)

/-- `LD (HL),D` (R119). -/
def execLdAtHlD (s : State) : Result := .next (loadR8 .atHl .d s)

/-- `LD (HL),E` (R119). -/
def execLdAtHlE (s : State) : Result := .next (loadR8 .atHl .e s)

/-- `LD (HL),H` (R119). -/
def execLdAtHlH (s : State) : Result := .next (loadR8 .atHl .h s)

/-- `LD (HL),L` (R119). -/
def execLdAtHlL (s : State) : Result := .next (loadR8 .atHl .l s)

/-- `LD (HL),A` (R119). -/
def execLdAtHlA (s : State) : Result := .next (loadR8 .atHl .a s)

/-- `LD A,B` (R116). -/
def execLdAB (s : State) : Result := .next (loadR8 .a .b s)

/-- `LD A,C` (R116). -/
def execLdAC (s : State) : Result := .next (loadR8 .a .c s)

/-- `LD A,D` (R116). -/
def execLdAD (s : State) : Result := .next (loadR8 .a .d s)

/-- `LD A,E` (R116). -/
def execLdAE (s : State) : Result := .next (loadR8 .a .e s)

/-- `LD A,H` (R116). -/
def execLdAH (s : State) : Result := .next (loadR8 .a .h s)

/-- `LD A,L` (R116). -/
def execLdAL (s : State) : Result := .next (loadR8 .a .l s)

/-- `LD A,(HL)` (R118). -/
def execLdAAtHl (s : State) : Result := .next (loadR8 .a .atHl s)

/-- `LD A,A` (R116). -/
def execLdAA (s : State) : Result := .next (loadR8 .a .a s)

/-- `POP BC` (R139). -/
def execPopBc (s : State) : Result := .next (popR16 .bc s)

/-- `PUSH BC` (R138). -/
def execPushBc (s : State) : Result := .next (pushR16 .bc s)

/-- `POP DE` (R139). -/
def execPopDe (s : State) : Result := .next (popR16 .de s)

/-- `PUSH DE` (R138). -/
def execPushDe (s : State) : Result := .next (pushR16 .de s)

/-- `LDH (n8),A` (R132). -/
def execLdhAtN8A (n8 : Byte) (s : State) : Result := .next (storeHighN8 n8 s)

/-- `POP HL` (R139). -/
def execPopHl (s : State) : Result := .next (popR16 .hl s)

/-- `LDH (C),A` (R134). -/
def execLdhAtCA (s : State) : Result := .next (storeHighC s)

/-- `PUSH HL` (R138). -/
def execPushHl (s : State) : Result := .next (pushR16 .hl s)

/-- `LD (n16),A` (R130). -/
def execLdAtN16A (n16 : Word) (s : State) : Result := .next (storeAbsolute n16 s)

/-- `LDH A,(n8)` (R131). -/
def execLdhAAtN8 (n8 : Byte) (s : State) : Result := .next (loadHighN8 n8 s)

/-- `POP AF` (R139). -/
def execPopAf (s : State) : Result := .next (popR16 .af s)

/-- `LDH A,(C)` (R133). -/
def execLdhAAtC (s : State) : Result := .next (loadHighC s)

/-- `PUSH AF` (R138). -/
def execPushAf (s : State) : Result := .next (pushR16 .af s)

/-- `LD SP,HL` (R137). -/
def execLdSpHl (s : State) : Result := .next (loadSpHl s)

/-- `LD A,(n16)` (R129). -/
def execLdAAtN16 (n16 : Word) (s : State) : Result := .next (loadAbsolute n16 s)

end Sys2Proof.Machine
end

