-- ==== Sys2Proof/Machine/Arith16.lean ====
section
/-! DEFINITION. 16-bit arithmetic (spec 43_arith16.md R173 to R177): the shared operations, then one
definition per instruction. -/

namespace Sys2Proof.Machine

/-- `ADD HL,r16` (R173). -/
def addHl (o : R16) (s : State) : State :=
  let r := add16H s.hl (s.readR16 o)
  ((s.setHl r.value).setFlags selAddHl r).retire 1 2

/-- `INC r16` (R174). -/
def incrementR16 (o : R16) (s : State) : State := (s.writeR16 o (s.readR16 o + 1)).retire 1 2

/-- `DEC r16` (R175). -/
def decrementR16 (o : R16) (s : State) : State := (s.writeR16 o (s.readR16 o - 1)).retire 1 2

/-- `ADD SP,e8` (R176). -/
def addSp (e8 : Byte) (s : State) : State :=
  let r := add16L s.sp (sext16 e8)
  ((s.setSp r.value).setFlags selSpE8 r).retire 2 4

/-- `LD HL,SP+e8` (R177). -/
def loadHlSp (e8 : Byte) (s : State) : State :=
  let r := add16L s.sp (sext16 e8)
  ((s.setHl r.value).setFlags selSpE8 r).retire 2 3

/-- `INC BC` (R174). -/
def execIncBc (s : State) : Result := .next (incrementR16 .bc s)

/-- `ADD HL,BC` (R173). -/
def execAddHlBc (s : State) : Result := .next (addHl .bc s)

/-- `DEC BC` (R175). -/
def execDecBc (s : State) : Result := .next (decrementR16 .bc s)

/-- `INC DE` (R174). -/
def execIncDe (s : State) : Result := .next (incrementR16 .de s)

/-- `ADD HL,DE` (R173). -/
def execAddHlDe (s : State) : Result := .next (addHl .de s)

/-- `DEC DE` (R175). -/
def execDecDe (s : State) : Result := .next (decrementR16 .de s)

/-- `INC HL` (R174). -/
def execIncHl (s : State) : Result := .next (incrementR16 .hl s)

/-- `ADD HL,HL` (R173). -/
def execAddHlHl (s : State) : Result := .next (addHl .hl s)

/-- `DEC HL` (R175). -/
def execDecHl (s : State) : Result := .next (decrementR16 .hl s)

/-- `INC SP` (R174). -/
def execIncSp (s : State) : Result := .next (incrementR16 .sp s)

/-- `ADD HL,SP` (R173). -/
def execAddHlSp (s : State) : Result := .next (addHl .sp s)

/-- `DEC SP` (R175). -/
def execDecSp (s : State) : Result := .next (decrementR16 .sp s)

/-- `ADD SP,e8` (R176). -/
def execAddSpE8 (e8 : Byte) (s : State) : Result := .next (addSp e8 s)

/-- `LD HL,SP+e8` (R177). -/
def execLdHlSpE8 (e8 : Byte) (s : State) : Result := .next (loadHlSp e8 s)

end Sys2Proof.Machine
end

