-- ==== Sys2Proof/Machine/Arith8.lean ====
section
/-! DEFINITION. 8-bit arithmetic and logic (spec 42_arith8.md R140 to R172): the shared operations, then one
definition per instruction. -/

namespace Sys2Proof.Machine

/-- The end of an ALU operation on A: A takes the value (CP leaves it) and F the selected flags
(R141 to R164). -/
def State.aluFinish (k : AluOp) (r : AluResult 8) (s : State) : State :=
  (if k.writesA then s.setReg .a r.value else s).setFlags k.selector r

/-- An ALU operation of A with a register or the byte at HL (R141 to R163). -/
def aluR8 (k : AluOp) (o : R8) (s : State) : State :=
  (s.aluFinish k (k.result (s.reg .a) (s.readR8 o) s.carry)).retire 1 (o.cost 1 2)

/-- An ALU operation of A with an immediate byte (R143 to R164). -/
def aluN8 (k : AluOp) (n8 : Byte) (s : State) : State :=
  (s.aluFinish k (k.result (s.reg .a) n8 s.carry)).retire 2 2

/-- `INC r8` and `INC (HL)` (R165, R166). -/
def incrementR8 (o : R8) (s : State) : State :=
  let r := aluAdd (s.readR8 o) 1 false
  ((s.writeR8 o r.value).setFlags selInc r).retire 1 (o.cost 1 3)

/-- `DEC r8` and `DEC (HL)` (R167, R168). -/
def decrementR8 (o : R8) (s : State) : State :=
  let r := aluSub (s.readR8 o) 1 false
  ((s.writeR8 o r.value).setFlags selDec r).retire 1 (o.cost 1 3)

/-- `DAA` (R169). -/
def decimalAdjust (s : State) : State :=
  let f := s.reg .f
  let r := bcdAdjust (s.reg .a) (flagN f) (flagH f) (flagC f)
  ((s.setReg .a r.value).setFlags selDaa r).retire 1 1

/-- `CPL` (R170). -/
def complementA (s : State) : State :=
  ((s.setReg .a (complement8 (s.reg .a))).setFlags selCpl noResult).retire 1 1

/-- `SCF` (R171). -/
def setCarry (s : State) : State := (s.setFlags selScf noResult).retire 1 1

/-- `CCF` (R172). -/
def complementCarry (s : State) : State := (s.setFlags selCcf noResult).retire 1 1

/-- `INC B` (R165). -/
def execIncB (s : State) : Result := .next (incrementR8 .b s)

/-- `DEC B` (R167). -/
def execDecB (s : State) : Result := .next (decrementR8 .b s)

/-- `INC C` (R165). -/
def execIncC (s : State) : Result := .next (incrementR8 .c s)

/-- `DEC C` (R167). -/
def execDecC (s : State) : Result := .next (decrementR8 .c s)

/-- `INC D` (R165). -/
def execIncD (s : State) : Result := .next (incrementR8 .d s)

/-- `DEC D` (R167). -/
def execDecD (s : State) : Result := .next (decrementR8 .d s)

/-- `INC E` (R165). -/
def execIncE (s : State) : Result := .next (incrementR8 .e s)

/-- `DEC E` (R167). -/
def execDecE (s : State) : Result := .next (decrementR8 .e s)

/-- `INC H` (R165). -/
def execIncH (s : State) : Result := .next (incrementR8 .h s)

/-- `DEC H` (R167). -/
def execDecH (s : State) : Result := .next (decrementR8 .h s)

/-- `DAA` (R169). -/
def execDaa (s : State) : Result := .next (decimalAdjust s)

/-- `INC L` (R165). -/
def execIncL (s : State) : Result := .next (incrementR8 .l s)

/-- `DEC L` (R167). -/
def execDecL (s : State) : Result := .next (decrementR8 .l s)

/-- `CPL` (R170). -/
def execCpl (s : State) : Result := .next (complementA s)

/-- `INC (HL)` (R166). -/
def execIncAtHl (s : State) : Result := .next (incrementR8 .atHl s)

/-- `DEC (HL)` (R168). -/
def execDecAtHl (s : State) : Result := .next (decrementR8 .atHl s)

/-- `SCF` (R171). -/
def execScf (s : State) : Result := .next (setCarry s)

/-- `INC A` (R165). -/
def execIncA (s : State) : Result := .next (incrementR8 .a s)

/-- `DEC A` (R167). -/
def execDecA (s : State) : Result := .next (decrementR8 .a s)

/-- `CCF` (R172). -/
def execCcf (s : State) : Result := .next (complementCarry s)

/-- `ADD A,B` (R141). -/
def execAddAB (s : State) : Result := .next (aluR8 .add .b s)

/-- `ADD A,C` (R141). -/
def execAddAC (s : State) : Result := .next (aluR8 .add .c s)

/-- `ADD A,D` (R141). -/
def execAddAD (s : State) : Result := .next (aluR8 .add .d s)

/-- `ADD A,E` (R141). -/
def execAddAE (s : State) : Result := .next (aluR8 .add .e s)

/-- `ADD A,H` (R141). -/
def execAddAH (s : State) : Result := .next (aluR8 .add .h s)

/-- `ADD A,L` (R141). -/
def execAddAL (s : State) : Result := .next (aluR8 .add .l s)

/-- `ADD A,(HL)` (R142). -/
def execAddAAtHl (s : State) : Result := .next (aluR8 .add .atHl s)

/-- `ADD A,A` (R141). -/
def execAddAA (s : State) : Result := .next (aluR8 .add .a s)

/-- `ADC A,B` (R144). -/
def execAdcAB (s : State) : Result := .next (aluR8 .adc .b s)

/-- `ADC A,C` (R144). -/
def execAdcAC (s : State) : Result := .next (aluR8 .adc .c s)

/-- `ADC A,D` (R144). -/
def execAdcAD (s : State) : Result := .next (aluR8 .adc .d s)

/-- `ADC A,E` (R144). -/
def execAdcAE (s : State) : Result := .next (aluR8 .adc .e s)

/-- `ADC A,H` (R144). -/
def execAdcAH (s : State) : Result := .next (aluR8 .adc .h s)

/-- `ADC A,L` (R144). -/
def execAdcAL (s : State) : Result := .next (aluR8 .adc .l s)

/-- `ADC A,(HL)` (R145). -/
def execAdcAAtHl (s : State) : Result := .next (aluR8 .adc .atHl s)

/-- `ADC A,A` (R144). -/
def execAdcAA (s : State) : Result := .next (aluR8 .adc .a s)

/-- `SUB A,B` (R147). -/
def execSubAB (s : State) : Result := .next (aluR8 .sub .b s)

/-- `SUB A,C` (R147). -/
def execSubAC (s : State) : Result := .next (aluR8 .sub .c s)

/-- `SUB A,D` (R147). -/
def execSubAD (s : State) : Result := .next (aluR8 .sub .d s)

/-- `SUB A,E` (R147). -/
def execSubAE (s : State) : Result := .next (aluR8 .sub .e s)

/-- `SUB A,H` (R147). -/
def execSubAH (s : State) : Result := .next (aluR8 .sub .h s)

/-- `SUB A,L` (R147). -/
def execSubAL (s : State) : Result := .next (aluR8 .sub .l s)

/-- `SUB A,(HL)` (R148). -/
def execSubAAtHl (s : State) : Result := .next (aluR8 .sub .atHl s)

/-- `SUB A,A` (R147). -/
def execSubAA (s : State) : Result := .next (aluR8 .sub .a s)

/-- `SBC A,B` (R150). -/
def execSbcAB (s : State) : Result := .next (aluR8 .sbc .b s)

/-- `SBC A,C` (R150). -/
def execSbcAC (s : State) : Result := .next (aluR8 .sbc .c s)

/-- `SBC A,D` (R150). -/
def execSbcAD (s : State) : Result := .next (aluR8 .sbc .d s)

/-- `SBC A,E` (R150). -/
def execSbcAE (s : State) : Result := .next (aluR8 .sbc .e s)

/-- `SBC A,H` (R150). -/
def execSbcAH (s : State) : Result := .next (aluR8 .sbc .h s)

/-- `SBC A,L` (R150). -/
def execSbcAL (s : State) : Result := .next (aluR8 .sbc .l s)

/-- `SBC A,(HL)` (R151). -/
def execSbcAAtHl (s : State) : Result := .next (aluR8 .sbc .atHl s)

/-- `SBC A,A` (R150). -/
def execSbcAA (s : State) : Result := .next (aluR8 .sbc .a s)

/-- `AND A,B` (R156). -/
def execAndAB (s : State) : Result := .next (aluR8 .and .b s)

/-- `AND A,C` (R156). -/
def execAndAC (s : State) : Result := .next (aluR8 .and .c s)

/-- `AND A,D` (R156). -/
def execAndAD (s : State) : Result := .next (aluR8 .and .d s)

/-- `AND A,E` (R156). -/
def execAndAE (s : State) : Result := .next (aluR8 .and .e s)

/-- `AND A,H` (R156). -/
def execAndAH (s : State) : Result := .next (aluR8 .and .h s)

/-- `AND A,L` (R156). -/
def execAndAL (s : State) : Result := .next (aluR8 .and .l s)

/-- `AND A,(HL)` (R157). -/
def execAndAAtHl (s : State) : Result := .next (aluR8 .and .atHl s)

/-- `AND A,A` (R156). -/
def execAndAA (s : State) : Result := .next (aluR8 .and .a s)

/-- `XOR A,B` (R159). -/
def execXorAB (s : State) : Result := .next (aluR8 .xor .b s)

/-- `XOR A,C` (R159). -/
def execXorAC (s : State) : Result := .next (aluR8 .xor .c s)

/-- `XOR A,D` (R159). -/
def execXorAD (s : State) : Result := .next (aluR8 .xor .d s)

/-- `XOR A,E` (R159). -/
def execXorAE (s : State) : Result := .next (aluR8 .xor .e s)

/-- `XOR A,H` (R159). -/
def execXorAH (s : State) : Result := .next (aluR8 .xor .h s)

/-- `XOR A,L` (R159). -/
def execXorAL (s : State) : Result := .next (aluR8 .xor .l s)

/-- `XOR A,(HL)` (R160). -/
def execXorAAtHl (s : State) : Result := .next (aluR8 .xor .atHl s)

/-- `XOR A,A` (R159). -/
def execXorAA (s : State) : Result := .next (aluR8 .xor .a s)

/-- `OR A,B` (R162). -/
def execOrAB (s : State) : Result := .next (aluR8 .or .b s)

/-- `OR A,C` (R162). -/
def execOrAC (s : State) : Result := .next (aluR8 .or .c s)

/-- `OR A,D` (R162). -/
def execOrAD (s : State) : Result := .next (aluR8 .or .d s)

/-- `OR A,E` (R162). -/
def execOrAE (s : State) : Result := .next (aluR8 .or .e s)

/-- `OR A,H` (R162). -/
def execOrAH (s : State) : Result := .next (aluR8 .or .h s)

/-- `OR A,L` (R162). -/
def execOrAL (s : State) : Result := .next (aluR8 .or .l s)

/-- `OR A,(HL)` (R163). -/
def execOrAAtHl (s : State) : Result := .next (aluR8 .or .atHl s)

/-- `OR A,A` (R162). -/
def execOrAA (s : State) : Result := .next (aluR8 .or .a s)

/-- `CP A,B` (R153). -/
def execCpAB (s : State) : Result := .next (aluR8 .cp .b s)

/-- `CP A,C` (R153). -/
def execCpAC (s : State) : Result := .next (aluR8 .cp .c s)

/-- `CP A,D` (R153). -/
def execCpAD (s : State) : Result := .next (aluR8 .cp .d s)

/-- `CP A,E` (R153). -/
def execCpAE (s : State) : Result := .next (aluR8 .cp .e s)

/-- `CP A,H` (R153). -/
def execCpAH (s : State) : Result := .next (aluR8 .cp .h s)

/-- `CP A,L` (R153). -/
def execCpAL (s : State) : Result := .next (aluR8 .cp .l s)

/-- `CP A,(HL)` (R154). -/
def execCpAAtHl (s : State) : Result := .next (aluR8 .cp .atHl s)

/-- `CP A,A` (R153). -/
def execCpAA (s : State) : Result := .next (aluR8 .cp .a s)

/-- `ADD A,n8` (R143). -/
def execAddAN8 (n8 : Byte) (s : State) : Result := .next (aluN8 .add n8 s)

/-- `ADC A,n8` (R146). -/
def execAdcAN8 (n8 : Byte) (s : State) : Result := .next (aluN8 .adc n8 s)

/-- `SUB A,n8` (R149). -/
def execSubAN8 (n8 : Byte) (s : State) : Result := .next (aluN8 .sub n8 s)

/-- `SBC A,n8` (R152). -/
def execSbcAN8 (n8 : Byte) (s : State) : Result := .next (aluN8 .sbc n8 s)

/-- `AND A,n8` (R158). -/
def execAndAN8 (n8 : Byte) (s : State) : Result := .next (aluN8 .and n8 s)

/-- `XOR A,n8` (R161). -/
def execXorAN8 (n8 : Byte) (s : State) : Result := .next (aluN8 .xor n8 s)

/-- `OR A,n8` (R164). -/
def execOrAN8 (n8 : Byte) (s : State) : Result := .next (aluN8 .or n8 s)

/-- `CP A,n8` (R155). -/
def execCpAN8 (n8 : Byte) (s : State) : Result := .next (aluN8 .cp n8 s)

end Sys2Proof.Machine
end

