-- ==== Sys2Proof/Machine/Control.lean ====
section
/-! DEFINITION. Jumps, calls, returns and restarts (spec 45_control.md R204 to R214): the shared operations,
then one definition per instruction. No instruction here writes F. A condition that fails only advances
PC by the length at the base cost (R231, R232). -/

namespace Sys2Proof.Machine

/-- `JP n16` (R204). -/
def jumpAbsolute (n16 : Word) (s : State) : State := s.jump n16 4

/-- `JP cc,n16` (R205). -/
def jumpAbsoluteIf (cc : Cond) (n16 : Word) (s : State) : State :=
  if cc.holds (s.reg .f) then s.jump n16 4 else s.retire 3 3

/-- `JP HL`; memory at HL is not read (R206). -/
def jumpHl (s : State) : State := s.jump s.hl 1

/-- The target of a relative jump: the address after the instruction plus the signed offset (R207). -/
def relativeTarget (pc : Word) (e8 : Byte) : Word := pc + 2 + sext16 e8

/-- `JR e8` (R207). -/
def jumpRelative (e8 : Byte) (s : State) : State := s.jump (relativeTarget s.pc e8) 3

/-- `JR cc,e8` (R208). -/
def jumpRelativeIf (cc : Cond) (e8 : Byte) (s : State) : State :=
  if cc.holds (s.reg .f) then s.jump (relativeTarget s.pc e8) 3 else s.retire 2 2

/-- `CALL n16`: the address after the instruction is pushed (R209). -/
def callAbsolute (n16 : Word) (s : State) : State := (s.pushWord (s.pc + 3)).jump n16 6

/-- `CALL cc,n16` (R210). -/
def callIf (cc : Cond) (n16 : Word) (s : State) : State :=
  if cc.holds (s.reg .f) then (s.pushWord (s.pc + 3)).jump n16 6 else s.retire 3 3

/-- `RET` (R211). -/
def returnCpu (s : State) : State := s.dropWord.jump s.stackTop 4

/-- `RET cc` (R212). -/
def returnIf (cc : Cond) (s : State) : State :=
  if cc.holds (s.reg .f) then s.dropWord.jump s.stackTop 5 else s.retire 1 2

/-- `RETI` (R213). -/
def returnInterrupt (s : State) : State := s.returnFromInterrupt 4

/-- `RST u3*8` (R214). -/
def restart (target : Word) (s : State) : State := (s.pushWord (s.pc + 1)).jump target 4

/-- `JR e8` (R207). -/
def execJrE8 (e8 : Byte) (s : State) : Result := .next (jumpRelative e8 s)

/-- `JR NZ,e8` (R208). -/
def execJrNzE8 (e8 : Byte) (s : State) : Result := .next (jumpRelativeIf .nz e8 s)

/-- `JR Z,e8` (R208). -/
def execJrZE8 (e8 : Byte) (s : State) : Result := .next (jumpRelativeIf .z e8 s)

/-- `JR NC,e8` (R208). -/
def execJrNcE8 (e8 : Byte) (s : State) : Result := .next (jumpRelativeIf .nc e8 s)

/-- `JR C,e8` (R208). -/
def execJrCE8 (e8 : Byte) (s : State) : Result := .next (jumpRelativeIf .c e8 s)

/-- `RET NZ` (R212). -/
def execRetNz (s : State) : Result := .next (returnIf .nz s)

/-- `JP NZ,n16` (R205). -/
def execJpNzN16 (n16 : Word) (s : State) : Result := .next (jumpAbsoluteIf .nz n16 s)

/-- `JP n16` (R204). -/
def execJpN16 (n16 : Word) (s : State) : Result := .next (jumpAbsolute n16 s)

/-- `CALL NZ,n16` (R210). -/
def execCallNzN16 (n16 : Word) (s : State) : Result := .next (callIf .nz n16 s)

/-- `RST 0x00` (R214). -/
def execRst00 (s : State) : Result := .next (restart 0x00 s)

/-- `RET Z` (R212). -/
def execRetZ (s : State) : Result := .next (returnIf .z s)

/-- `RET` (R211). -/
def execRet (s : State) : Result := .next (returnCpu s)

/-- `JP Z,n16` (R205). -/
def execJpZN16 (n16 : Word) (s : State) : Result := .next (jumpAbsoluteIf .z n16 s)

/-- `CALL Z,n16` (R210). -/
def execCallZN16 (n16 : Word) (s : State) : Result := .next (callIf .z n16 s)

/-- `CALL n16` (R209). -/
def execCallN16 (n16 : Word) (s : State) : Result := .next (callAbsolute n16 s)

/-- `RST 0x08` (R214). -/
def execRst08 (s : State) : Result := .next (restart 0x08 s)

/-- `RET NC` (R212). -/
def execRetNc (s : State) : Result := .next (returnIf .nc s)

/-- `JP NC,n16` (R205). -/
def execJpNcN16 (n16 : Word) (s : State) : Result := .next (jumpAbsoluteIf .nc n16 s)

/-- `CALL NC,n16` (R210). -/
def execCallNcN16 (n16 : Word) (s : State) : Result := .next (callIf .nc n16 s)

/-- `RST 0x10` (R214). -/
def execRst10 (s : State) : Result := .next (restart 0x10 s)

/-- `RET C` (R212). -/
def execRetC (s : State) : Result := .next (returnIf .c s)

/-- `RETI` (R213). -/
def execReti (s : State) : Result := .next (returnInterrupt s)

/-- `JP C,n16` (R205). -/
def execJpCN16 (n16 : Word) (s : State) : Result := .next (jumpAbsoluteIf .c n16 s)

/-- `CALL C,n16` (R210). -/
def execCallCN16 (n16 : Word) (s : State) : Result := .next (callIf .c n16 s)

/-- `RST 0x18` (R214). -/
def execRst18 (s : State) : Result := .next (restart 0x18 s)

/-- `RST 0x20` (R214). -/
def execRst20 (s : State) : Result := .next (restart 0x20 s)

/-- `JP HL` (R206). -/
def execJpHl (s : State) : Result := .next (jumpHl s)

/-- `RST 0x28` (R214). -/
def execRst28 (s : State) : Result := .next (restart 0x28 s)

/-- `RST 0x30` (R214). -/
def execRst30 (s : State) : Result := .next (restart 0x30 s)

/-- `RST 0x38` (R214). -/
def execRst38 (s : State) : Result := .next (restart 0x38 s)

end Sys2Proof.Machine
end

