-- ==== Sys2Proof/Machine/RotateBit.lean ====
section
/-! DEFINITION. Rotates, shifts and bit operations (spec 44_rotate_shift_bit.md R178 to R203): the shared
operations, then one definition per instruction. Every prefixed instruction is 2 bytes long (R84). -/

namespace Sys2Proof.Machine

/-- `RLCA`, `RRCA`, `RLA`, `RRA`: Z is always 0 (R178 to R181). -/
def rotateA (k : RotOp) (s : State) : State :=
  let r := k.result (s.reg .a) s.carry
  ((s.setReg .a r.value).setFlags selRotA r).retire 1 1

/-- A prefixed rotate, shift or swap of a register or the byte at HL (R182 to R197). -/
def rotateR8 (k : RotOp) (o : R8) (s : State) : State :=
  let r := k.result (s.readR8 o) s.carry
  ((s.writeR8 o r.value).setFlags k.selector r).retire 2 (o.cost 2 4)

/-- `BIT u3,r8` and `BIT u3,(HL)` (R198, R199). -/
def testR8 (b : BitVec 3) (o : R8) (s : State) : State :=
  (s.setFlags selBit (testBit (s.readR8 o) b)).retire 2 (o.cost 2 3)

/-- `RES u3,r8` and `RES u3,(HL)` (R200, R201). -/
def resetR8 (b : BitVec 3) (o : R8) (s : State) : State :=
  (s.writeR8 o (resBit (s.readR8 o) b)).retire 2 (o.cost 2 4)

/-- `SET u3,r8` and `SET u3,(HL)` (R202, R203). -/
def setR8 (b : BitVec 3) (o : R8) (s : State) : State :=
  (s.writeR8 o (setBit (s.readR8 o) b)).retire 2 (o.cost 2 4)

/-- The prefixed instruction a second byte selects, by its fields x, y and z (R84, R87, R92): what the
direct table's entry for 0xCB does. -/
def secondTable (op2 : Byte) (s : State) : State :=
  match (fieldX op2).toNat with
  | 0 => rotateR8 (rotOpOfField (fieldY op2)) (r8OfField (fieldZ op2)) s
  | 1 => testR8 (fieldY op2) (r8OfField (fieldZ op2)) s
  | 2 => resetR8 (fieldY op2) (r8OfField (fieldZ op2)) s
  | _ => setR8 (fieldY op2) (r8OfField (fieldZ op2)) s

/-- `RLCA` (R178). -/
def execRlca (s : State) : Result := .next (rotateA .rlc s)

/-- `RRCA` (R179). -/
def execRrca (s : State) : Result := .next (rotateA .rrc s)

/-- `RLA` (R180). -/
def execRla (s : State) : Result := .next (rotateA .rl s)

/-- `RRA` (R181). -/
def execRra (s : State) : Result := .next (rotateA .rr s)

/-- `(prefix 0xCB)` (R84). -/
def execPrefixCb (op2 : Byte) (s : State) : Result := .next (secondTable op2 s)

/-- `RLC B` (R182). -/
def execRlcB (s : State) : Result := .next (rotateR8 .rlc .b s)

/-- `RLC C` (R182). -/
def execRlcC (s : State) : Result := .next (rotateR8 .rlc .c s)

/-- `RLC D` (R182). -/
def execRlcD (s : State) : Result := .next (rotateR8 .rlc .d s)

/-- `RLC E` (R182). -/
def execRlcE (s : State) : Result := .next (rotateR8 .rlc .e s)

/-- `RLC H` (R182). -/
def execRlcH (s : State) : Result := .next (rotateR8 .rlc .h s)

/-- `RLC L` (R182). -/
def execRlcL (s : State) : Result := .next (rotateR8 .rlc .l s)

/-- `RLC (HL)` (R183). -/
def execRlcAtHl (s : State) : Result := .next (rotateR8 .rlc .atHl s)

/-- `RLC A` (R182). -/
def execRlcA (s : State) : Result := .next (rotateR8 .rlc .a s)

/-- `RRC B` (R184). -/
def execRrcB (s : State) : Result := .next (rotateR8 .rrc .b s)

/-- `RRC C` (R184). -/
def execRrcC (s : State) : Result := .next (rotateR8 .rrc .c s)

/-- `RRC D` (R184). -/
def execRrcD (s : State) : Result := .next (rotateR8 .rrc .d s)

/-- `RRC E` (R184). -/
def execRrcE (s : State) : Result := .next (rotateR8 .rrc .e s)

/-- `RRC H` (R184). -/
def execRrcH (s : State) : Result := .next (rotateR8 .rrc .h s)

/-- `RRC L` (R184). -/
def execRrcL (s : State) : Result := .next (rotateR8 .rrc .l s)

/-- `RRC (HL)` (R185). -/
def execRrcAtHl (s : State) : Result := .next (rotateR8 .rrc .atHl s)

/-- `RRC A` (R184). -/
def execRrcA (s : State) : Result := .next (rotateR8 .rrc .a s)

/-- `RL B` (R186). -/
def execRlB (s : State) : Result := .next (rotateR8 .rl .b s)

/-- `RL C` (R186). -/
def execRlC (s : State) : Result := .next (rotateR8 .rl .c s)

/-- `RL D` (R186). -/
def execRlD (s : State) : Result := .next (rotateR8 .rl .d s)

/-- `RL E` (R186). -/
def execRlE (s : State) : Result := .next (rotateR8 .rl .e s)

/-- `RL H` (R186). -/
def execRlH (s : State) : Result := .next (rotateR8 .rl .h s)

/-- `RL L` (R186). -/
def execRlL (s : State) : Result := .next (rotateR8 .rl .l s)

/-- `RL (HL)` (R187). -/
def execRlAtHl (s : State) : Result := .next (rotateR8 .rl .atHl s)

/-- `RL A` (R186). -/
def execRlA (s : State) : Result := .next (rotateR8 .rl .a s)

/-- `RR B` (R188). -/
def execRrB (s : State) : Result := .next (rotateR8 .rr .b s)

/-- `RR C` (R188). -/
def execRrC (s : State) : Result := .next (rotateR8 .rr .c s)

/-- `RR D` (R188). -/
def execRrD (s : State) : Result := .next (rotateR8 .rr .d s)

/-- `RR E` (R188). -/
def execRrE (s : State) : Result := .next (rotateR8 .rr .e s)

/-- `RR H` (R188). -/
def execRrH (s : State) : Result := .next (rotateR8 .rr .h s)

/-- `RR L` (R188). -/
def execRrL (s : State) : Result := .next (rotateR8 .rr .l s)

/-- `RR (HL)` (R189). -/
def execRrAtHl (s : State) : Result := .next (rotateR8 .rr .atHl s)

/-- `RR A` (R188). -/
def execRrA (s : State) : Result := .next (rotateR8 .rr .a s)

/-- `SLA B` (R190). -/
def execSlaB (s : State) : Result := .next (rotateR8 .sla .b s)

/-- `SLA C` (R190). -/
def execSlaC (s : State) : Result := .next (rotateR8 .sla .c s)

/-- `SLA D` (R190). -/
def execSlaD (s : State) : Result := .next (rotateR8 .sla .d s)

/-- `SLA E` (R190). -/
def execSlaE (s : State) : Result := .next (rotateR8 .sla .e s)

/-- `SLA H` (R190). -/
def execSlaH (s : State) : Result := .next (rotateR8 .sla .h s)

/-- `SLA L` (R190). -/
def execSlaL (s : State) : Result := .next (rotateR8 .sla .l s)

/-- `SLA (HL)` (R191). -/
def execSlaAtHl (s : State) : Result := .next (rotateR8 .sla .atHl s)

/-- `SLA A` (R190). -/
def execSlaA (s : State) : Result := .next (rotateR8 .sla .a s)

/-- `SRA B` (R192). -/
def execSraB (s : State) : Result := .next (rotateR8 .sra .b s)

/-- `SRA C` (R192). -/
def execSraC (s : State) : Result := .next (rotateR8 .sra .c s)

/-- `SRA D` (R192). -/
def execSraD (s : State) : Result := .next (rotateR8 .sra .d s)

/-- `SRA E` (R192). -/
def execSraE (s : State) : Result := .next (rotateR8 .sra .e s)

/-- `SRA H` (R192). -/
def execSraH (s : State) : Result := .next (rotateR8 .sra .h s)

/-- `SRA L` (R192). -/
def execSraL (s : State) : Result := .next (rotateR8 .sra .l s)

/-- `SRA (HL)` (R193). -/
def execSraAtHl (s : State) : Result := .next (rotateR8 .sra .atHl s)

/-- `SRA A` (R192). -/
def execSraA (s : State) : Result := .next (rotateR8 .sra .a s)

/-- `SWAP B` (R196). -/
def execSwapB (s : State) : Result := .next (rotateR8 .swap .b s)

/-- `SWAP C` (R196). -/
def execSwapC (s : State) : Result := .next (rotateR8 .swap .c s)

/-- `SWAP D` (R196). -/
def execSwapD (s : State) : Result := .next (rotateR8 .swap .d s)

/-- `SWAP E` (R196). -/
def execSwapE (s : State) : Result := .next (rotateR8 .swap .e s)

/-- `SWAP H` (R196). -/
def execSwapH (s : State) : Result := .next (rotateR8 .swap .h s)

/-- `SWAP L` (R196). -/
def execSwapL (s : State) : Result := .next (rotateR8 .swap .l s)

/-- `SWAP (HL)` (R197). -/
def execSwapAtHl (s : State) : Result := .next (rotateR8 .swap .atHl s)

/-- `SWAP A` (R196). -/
def execSwapA (s : State) : Result := .next (rotateR8 .swap .a s)

/-- `SRL B` (R194). -/
def execSrlB (s : State) : Result := .next (rotateR8 .srl .b s)

/-- `SRL C` (R194). -/
def execSrlC (s : State) : Result := .next (rotateR8 .srl .c s)

/-- `SRL D` (R194). -/
def execSrlD (s : State) : Result := .next (rotateR8 .srl .d s)

/-- `SRL E` (R194). -/
def execSrlE (s : State) : Result := .next (rotateR8 .srl .e s)

/-- `SRL H` (R194). -/
def execSrlH (s : State) : Result := .next (rotateR8 .srl .h s)

/-- `SRL L` (R194). -/
def execSrlL (s : State) : Result := .next (rotateR8 .srl .l s)

/-- `SRL (HL)` (R195). -/
def execSrlAtHl (s : State) : Result := .next (rotateR8 .srl .atHl s)

/-- `SRL A` (R194). -/
def execSrlA (s : State) : Result := .next (rotateR8 .srl .a s)

/-- `BIT 0,B` (R198). -/
def execBit0B (s : State) : Result := .next (testR8 0 .b s)

/-- `BIT 0,C` (R198). -/
def execBit0C (s : State) : Result := .next (testR8 0 .c s)

/-- `BIT 0,D` (R198). -/
def execBit0D (s : State) : Result := .next (testR8 0 .d s)

/-- `BIT 0,E` (R198). -/
def execBit0E (s : State) : Result := .next (testR8 0 .e s)

/-- `BIT 0,H` (R198). -/
def execBit0H (s : State) : Result := .next (testR8 0 .h s)

/-- `BIT 0,L` (R198). -/
def execBit0L (s : State) : Result := .next (testR8 0 .l s)

/-- `BIT 0,(HL)` (R199). -/
def execBit0AtHl (s : State) : Result := .next (testR8 0 .atHl s)

/-- `BIT 0,A` (R198). -/
def execBit0A (s : State) : Result := .next (testR8 0 .a s)

/-- `BIT 1,B` (R198). -/
def execBit1B (s : State) : Result := .next (testR8 1 .b s)

/-- `BIT 1,C` (R198). -/
def execBit1C (s : State) : Result := .next (testR8 1 .c s)

/-- `BIT 1,D` (R198). -/
def execBit1D (s : State) : Result := .next (testR8 1 .d s)

/-- `BIT 1,E` (R198). -/
def execBit1E (s : State) : Result := .next (testR8 1 .e s)

/-- `BIT 1,H` (R198). -/
def execBit1H (s : State) : Result := .next (testR8 1 .h s)

/-- `BIT 1,L` (R198). -/
def execBit1L (s : State) : Result := .next (testR8 1 .l s)

/-- `BIT 1,(HL)` (R199). -/
def execBit1AtHl (s : State) : Result := .next (testR8 1 .atHl s)

/-- `BIT 1,A` (R198). -/
def execBit1A (s : State) : Result := .next (testR8 1 .a s)

/-- `BIT 2,B` (R198). -/
def execBit2B (s : State) : Result := .next (testR8 2 .b s)

/-- `BIT 2,C` (R198). -/
def execBit2C (s : State) : Result := .next (testR8 2 .c s)

/-- `BIT 2,D` (R198). -/
def execBit2D (s : State) : Result := .next (testR8 2 .d s)

/-- `BIT 2,E` (R198). -/
def execBit2E (s : State) : Result := .next (testR8 2 .e s)

/-- `BIT 2,H` (R198). -/
def execBit2H (s : State) : Result := .next (testR8 2 .h s)

/-- `BIT 2,L` (R198). -/
def execBit2L (s : State) : Result := .next (testR8 2 .l s)

/-- `BIT 2,(HL)` (R199). -/
def execBit2AtHl (s : State) : Result := .next (testR8 2 .atHl s)

/-- `BIT 2,A` (R198). -/
def execBit2A (s : State) : Result := .next (testR8 2 .a s)

/-- `BIT 3,B` (R198). -/
def execBit3B (s : State) : Result := .next (testR8 3 .b s)

/-- `BIT 3,C` (R198). -/
def execBit3C (s : State) : Result := .next (testR8 3 .c s)

/-- `BIT 3,D` (R198). -/
def execBit3D (s : State) : Result := .next (testR8 3 .d s)

/-- `BIT 3,E` (R198). -/
def execBit3E (s : State) : Result := .next (testR8 3 .e s)

/-- `BIT 3,H` (R198). -/
def execBit3H (s : State) : Result := .next (testR8 3 .h s)

/-- `BIT 3,L` (R198). -/
def execBit3L (s : State) : Result := .next (testR8 3 .l s)

/-- `BIT 3,(HL)` (R199). -/
def execBit3AtHl (s : State) : Result := .next (testR8 3 .atHl s)

/-- `BIT 3,A` (R198). -/
def execBit3A (s : State) : Result := .next (testR8 3 .a s)

/-- `BIT 4,B` (R198). -/
def execBit4B (s : State) : Result := .next (testR8 4 .b s)

/-- `BIT 4,C` (R198). -/
def execBit4C (s : State) : Result := .next (testR8 4 .c s)

/-- `BIT 4,D` (R198). -/
def execBit4D (s : State) : Result := .next (testR8 4 .d s)

/-- `BIT 4,E` (R198). -/
def execBit4E (s : State) : Result := .next (testR8 4 .e s)

/-- `BIT 4,H` (R198). -/
def execBit4H (s : State) : Result := .next (testR8 4 .h s)

/-- `BIT 4,L` (R198). -/
def execBit4L (s : State) : Result := .next (testR8 4 .l s)

/-- `BIT 4,(HL)` (R199). -/
def execBit4AtHl (s : State) : Result := .next (testR8 4 .atHl s)

/-- `BIT 4,A` (R198). -/
def execBit4A (s : State) : Result := .next (testR8 4 .a s)

/-- `BIT 5,B` (R198). -/
def execBit5B (s : State) : Result := .next (testR8 5 .b s)

/-- `BIT 5,C` (R198). -/
def execBit5C (s : State) : Result := .next (testR8 5 .c s)

/-- `BIT 5,D` (R198). -/
def execBit5D (s : State) : Result := .next (testR8 5 .d s)

/-- `BIT 5,E` (R198). -/
def execBit5E (s : State) : Result := .next (testR8 5 .e s)

/-- `BIT 5,H` (R198). -/
def execBit5H (s : State) : Result := .next (testR8 5 .h s)

/-- `BIT 5,L` (R198). -/
def execBit5L (s : State) : Result := .next (testR8 5 .l s)

/-- `BIT 5,(HL)` (R199). -/
def execBit5AtHl (s : State) : Result := .next (testR8 5 .atHl s)

/-- `BIT 5,A` (R198). -/
def execBit5A (s : State) : Result := .next (testR8 5 .a s)

/-- `BIT 6,B` (R198). -/
def execBit6B (s : State) : Result := .next (testR8 6 .b s)

/-- `BIT 6,C` (R198). -/
def execBit6C (s : State) : Result := .next (testR8 6 .c s)

/-- `BIT 6,D` (R198). -/
def execBit6D (s : State) : Result := .next (testR8 6 .d s)

/-- `BIT 6,E` (R198). -/
def execBit6E (s : State) : Result := .next (testR8 6 .e s)

/-- `BIT 6,H` (R198). -/
def execBit6H (s : State) : Result := .next (testR8 6 .h s)

/-- `BIT 6,L` (R198). -/
def execBit6L (s : State) : Result := .next (testR8 6 .l s)

/-- `BIT 6,(HL)` (R199). -/
def execBit6AtHl (s : State) : Result := .next (testR8 6 .atHl s)

/-- `BIT 6,A` (R198). -/
def execBit6A (s : State) : Result := .next (testR8 6 .a s)

/-- `BIT 7,B` (R198). -/
def execBit7B (s : State) : Result := .next (testR8 7 .b s)

/-- `BIT 7,C` (R198). -/
def execBit7C (s : State) : Result := .next (testR8 7 .c s)

/-- `BIT 7,D` (R198). -/
def execBit7D (s : State) : Result := .next (testR8 7 .d s)

/-- `BIT 7,E` (R198). -/
def execBit7E (s : State) : Result := .next (testR8 7 .e s)

/-- `BIT 7,H` (R198). -/
def execBit7H (s : State) : Result := .next (testR8 7 .h s)

/-- `BIT 7,L` (R198). -/
def execBit7L (s : State) : Result := .next (testR8 7 .l s)

/-- `BIT 7,(HL)` (R199). -/
def execBit7AtHl (s : State) : Result := .next (testR8 7 .atHl s)

/-- `BIT 7,A` (R198). -/
def execBit7A (s : State) : Result := .next (testR8 7 .a s)

/-- `RES 0,B` (R200). -/
def execRes0B (s : State) : Result := .next (resetR8 0 .b s)

/-- `RES 0,C` (R200). -/
def execRes0C (s : State) : Result := .next (resetR8 0 .c s)

/-- `RES 0,D` (R200). -/
def execRes0D (s : State) : Result := .next (resetR8 0 .d s)

/-- `RES 0,E` (R200). -/
def execRes0E (s : State) : Result := .next (resetR8 0 .e s)

/-- `RES 0,H` (R200). -/
def execRes0H (s : State) : Result := .next (resetR8 0 .h s)

/-- `RES 0,L` (R200). -/
def execRes0L (s : State) : Result := .next (resetR8 0 .l s)

/-- `RES 0,(HL)` (R201). -/
def execRes0AtHl (s : State) : Result := .next (resetR8 0 .atHl s)

/-- `RES 0,A` (R200). -/
def execRes0A (s : State) : Result := .next (resetR8 0 .a s)

/-- `RES 1,B` (R200). -/
def execRes1B (s : State) : Result := .next (resetR8 1 .b s)

/-- `RES 1,C` (R200). -/
def execRes1C (s : State) : Result := .next (resetR8 1 .c s)

/-- `RES 1,D` (R200). -/
def execRes1D (s : State) : Result := .next (resetR8 1 .d s)

/-- `RES 1,E` (R200). -/
def execRes1E (s : State) : Result := .next (resetR8 1 .e s)

/-- `RES 1,H` (R200). -/
def execRes1H (s : State) : Result := .next (resetR8 1 .h s)

/-- `RES 1,L` (R200). -/
def execRes1L (s : State) : Result := .next (resetR8 1 .l s)

/-- `RES 1,(HL)` (R201). -/
def execRes1AtHl (s : State) : Result := .next (resetR8 1 .atHl s)

/-- `RES 1,A` (R200). -/
def execRes1A (s : State) : Result := .next (resetR8 1 .a s)

/-- `RES 2,B` (R200). -/
def execRes2B (s : State) : Result := .next (resetR8 2 .b s)

/-- `RES 2,C` (R200). -/
def execRes2C (s : State) : Result := .next (resetR8 2 .c s)

/-- `RES 2,D` (R200). -/
def execRes2D (s : State) : Result := .next (resetR8 2 .d s)

/-- `RES 2,E` (R200). -/
def execRes2E (s : State) : Result := .next (resetR8 2 .e s)

/-- `RES 2,H` (R200). -/
def execRes2H (s : State) : Result := .next (resetR8 2 .h s)

/-- `RES 2,L` (R200). -/
def execRes2L (s : State) : Result := .next (resetR8 2 .l s)

/-- `RES 2,(HL)` (R201). -/
def execRes2AtHl (s : State) : Result := .next (resetR8 2 .atHl s)

/-- `RES 2,A` (R200). -/
def execRes2A (s : State) : Result := .next (resetR8 2 .a s)

/-- `RES 3,B` (R200). -/
def execRes3B (s : State) : Result := .next (resetR8 3 .b s)

/-- `RES 3,C` (R200). -/
def execRes3C (s : State) : Result := .next (resetR8 3 .c s)

/-- `RES 3,D` (R200). -/
def execRes3D (s : State) : Result := .next (resetR8 3 .d s)

/-- `RES 3,E` (R200). -/
def execRes3E (s : State) : Result := .next (resetR8 3 .e s)

/-- `RES 3,H` (R200). -/
def execRes3H (s : State) : Result := .next (resetR8 3 .h s)

/-- `RES 3,L` (R200). -/
def execRes3L (s : State) : Result := .next (resetR8 3 .l s)

/-- `RES 3,(HL)` (R201). -/
def execRes3AtHl (s : State) : Result := .next (resetR8 3 .atHl s)

/-- `RES 3,A` (R200). -/
def execRes3A (s : State) : Result := .next (resetR8 3 .a s)

/-- `RES 4,B` (R200). -/
def execRes4B (s : State) : Result := .next (resetR8 4 .b s)

/-- `RES 4,C` (R200). -/
def execRes4C (s : State) : Result := .next (resetR8 4 .c s)

/-- `RES 4,D` (R200). -/
def execRes4D (s : State) : Result := .next (resetR8 4 .d s)

/-- `RES 4,E` (R200). -/
def execRes4E (s : State) : Result := .next (resetR8 4 .e s)

/-- `RES 4,H` (R200). -/
def execRes4H (s : State) : Result := .next (resetR8 4 .h s)

/-- `RES 4,L` (R200). -/
def execRes4L (s : State) : Result := .next (resetR8 4 .l s)

/-- `RES 4,(HL)` (R201). -/
def execRes4AtHl (s : State) : Result := .next (resetR8 4 .atHl s)

/-- `RES 4,A` (R200). -/
def execRes4A (s : State) : Result := .next (resetR8 4 .a s)

/-- `RES 5,B` (R200). -/
def execRes5B (s : State) : Result := .next (resetR8 5 .b s)

/-- `RES 5,C` (R200). -/
def execRes5C (s : State) : Result := .next (resetR8 5 .c s)

/-- `RES 5,D` (R200). -/
def execRes5D (s : State) : Result := .next (resetR8 5 .d s)

/-- `RES 5,E` (R200). -/
def execRes5E (s : State) : Result := .next (resetR8 5 .e s)

/-- `RES 5,H` (R200). -/
def execRes5H (s : State) : Result := .next (resetR8 5 .h s)

/-- `RES 5,L` (R200). -/
def execRes5L (s : State) : Result := .next (resetR8 5 .l s)

/-- `RES 5,(HL)` (R201). -/
def execRes5AtHl (s : State) : Result := .next (resetR8 5 .atHl s)

/-- `RES 5,A` (R200). -/
def execRes5A (s : State) : Result := .next (resetR8 5 .a s)

/-- `RES 6,B` (R200). -/
def execRes6B (s : State) : Result := .next (resetR8 6 .b s)

/-- `RES 6,C` (R200). -/
def execRes6C (s : State) : Result := .next (resetR8 6 .c s)

/-- `RES 6,D` (R200). -/
def execRes6D (s : State) : Result := .next (resetR8 6 .d s)

/-- `RES 6,E` (R200). -/
def execRes6E (s : State) : Result := .next (resetR8 6 .e s)

/-- `RES 6,H` (R200). -/
def execRes6H (s : State) : Result := .next (resetR8 6 .h s)

/-- `RES 6,L` (R200). -/
def execRes6L (s : State) : Result := .next (resetR8 6 .l s)

/-- `RES 6,(HL)` (R201). -/
def execRes6AtHl (s : State) : Result := .next (resetR8 6 .atHl s)

/-- `RES 6,A` (R200). -/
def execRes6A (s : State) : Result := .next (resetR8 6 .a s)

/-- `RES 7,B` (R200). -/
def execRes7B (s : State) : Result := .next (resetR8 7 .b s)

/-- `RES 7,C` (R200). -/
def execRes7C (s : State) : Result := .next (resetR8 7 .c s)

/-- `RES 7,D` (R200). -/
def execRes7D (s : State) : Result := .next (resetR8 7 .d s)

/-- `RES 7,E` (R200). -/
def execRes7E (s : State) : Result := .next (resetR8 7 .e s)

/-- `RES 7,H` (R200). -/
def execRes7H (s : State) : Result := .next (resetR8 7 .h s)

/-- `RES 7,L` (R200). -/
def execRes7L (s : State) : Result := .next (resetR8 7 .l s)

/-- `RES 7,(HL)` (R201). -/
def execRes7AtHl (s : State) : Result := .next (resetR8 7 .atHl s)

/-- `RES 7,A` (R200). -/
def execRes7A (s : State) : Result := .next (resetR8 7 .a s)

/-- `SET 0,B` (R202). -/
def execSet0B (s : State) : Result := .next (setR8 0 .b s)

/-- `SET 0,C` (R202). -/
def execSet0C (s : State) : Result := .next (setR8 0 .c s)

/-- `SET 0,D` (R202). -/
def execSet0D (s : State) : Result := .next (setR8 0 .d s)

/-- `SET 0,E` (R202). -/
def execSet0E (s : State) : Result := .next (setR8 0 .e s)

/-- `SET 0,H` (R202). -/
def execSet0H (s : State) : Result := .next (setR8 0 .h s)

/-- `SET 0,L` (R202). -/
def execSet0L (s : State) : Result := .next (setR8 0 .l s)

/-- `SET 0,(HL)` (R203). -/
def execSet0AtHl (s : State) : Result := .next (setR8 0 .atHl s)

/-- `SET 0,A` (R202). -/
def execSet0A (s : State) : Result := .next (setR8 0 .a s)

/-- `SET 1,B` (R202). -/
def execSet1B (s : State) : Result := .next (setR8 1 .b s)

/-- `SET 1,C` (R202). -/
def execSet1C (s : State) : Result := .next (setR8 1 .c s)

/-- `SET 1,D` (R202). -/
def execSet1D (s : State) : Result := .next (setR8 1 .d s)

/-- `SET 1,E` (R202). -/
def execSet1E (s : State) : Result := .next (setR8 1 .e s)

/-- `SET 1,H` (R202). -/
def execSet1H (s : State) : Result := .next (setR8 1 .h s)

/-- `SET 1,L` (R202). -/
def execSet1L (s : State) : Result := .next (setR8 1 .l s)

/-- `SET 1,(HL)` (R203). -/
def execSet1AtHl (s : State) : Result := .next (setR8 1 .atHl s)

/-- `SET 1,A` (R202). -/
def execSet1A (s : State) : Result := .next (setR8 1 .a s)

/-- `SET 2,B` (R202). -/
def execSet2B (s : State) : Result := .next (setR8 2 .b s)

/-- `SET 2,C` (R202). -/
def execSet2C (s : State) : Result := .next (setR8 2 .c s)

/-- `SET 2,D` (R202). -/
def execSet2D (s : State) : Result := .next (setR8 2 .d s)

/-- `SET 2,E` (R202). -/
def execSet2E (s : State) : Result := .next (setR8 2 .e s)

/-- `SET 2,H` (R202). -/
def execSet2H (s : State) : Result := .next (setR8 2 .h s)

/-- `SET 2,L` (R202). -/
def execSet2L (s : State) : Result := .next (setR8 2 .l s)

/-- `SET 2,(HL)` (R203). -/
def execSet2AtHl (s : State) : Result := .next (setR8 2 .atHl s)

/-- `SET 2,A` (R202). -/
def execSet2A (s : State) : Result := .next (setR8 2 .a s)

/-- `SET 3,B` (R202). -/
def execSet3B (s : State) : Result := .next (setR8 3 .b s)

/-- `SET 3,C` (R202). -/
def execSet3C (s : State) : Result := .next (setR8 3 .c s)

/-- `SET 3,D` (R202). -/
def execSet3D (s : State) : Result := .next (setR8 3 .d s)

/-- `SET 3,E` (R202). -/
def execSet3E (s : State) : Result := .next (setR8 3 .e s)

/-- `SET 3,H` (R202). -/
def execSet3H (s : State) : Result := .next (setR8 3 .h s)

/-- `SET 3,L` (R202). -/
def execSet3L (s : State) : Result := .next (setR8 3 .l s)

/-- `SET 3,(HL)` (R203). -/
def execSet3AtHl (s : State) : Result := .next (setR8 3 .atHl s)

/-- `SET 3,A` (R202). -/
def execSet3A (s : State) : Result := .next (setR8 3 .a s)

/-- `SET 4,B` (R202). -/
def execSet4B (s : State) : Result := .next (setR8 4 .b s)

/-- `SET 4,C` (R202). -/
def execSet4C (s : State) : Result := .next (setR8 4 .c s)

/-- `SET 4,D` (R202). -/
def execSet4D (s : State) : Result := .next (setR8 4 .d s)

/-- `SET 4,E` (R202). -/
def execSet4E (s : State) : Result := .next (setR8 4 .e s)

/-- `SET 4,H` (R202). -/
def execSet4H (s : State) : Result := .next (setR8 4 .h s)

/-- `SET 4,L` (R202). -/
def execSet4L (s : State) : Result := .next (setR8 4 .l s)

/-- `SET 4,(HL)` (R203). -/
def execSet4AtHl (s : State) : Result := .next (setR8 4 .atHl s)

/-- `SET 4,A` (R202). -/
def execSet4A (s : State) : Result := .next (setR8 4 .a s)

/-- `SET 5,B` (R202). -/
def execSet5B (s : State) : Result := .next (setR8 5 .b s)

/-- `SET 5,C` (R202). -/
def execSet5C (s : State) : Result := .next (setR8 5 .c s)

/-- `SET 5,D` (R202). -/
def execSet5D (s : State) : Result := .next (setR8 5 .d s)

/-- `SET 5,E` (R202). -/
def execSet5E (s : State) : Result := .next (setR8 5 .e s)

/-- `SET 5,H` (R202). -/
def execSet5H (s : State) : Result := .next (setR8 5 .h s)

/-- `SET 5,L` (R202). -/
def execSet5L (s : State) : Result := .next (setR8 5 .l s)

/-- `SET 5,(HL)` (R203). -/
def execSet5AtHl (s : State) : Result := .next (setR8 5 .atHl s)

/-- `SET 5,A` (R202). -/
def execSet5A (s : State) : Result := .next (setR8 5 .a s)

/-- `SET 6,B` (R202). -/
def execSet6B (s : State) : Result := .next (setR8 6 .b s)

/-- `SET 6,C` (R202). -/
def execSet6C (s : State) : Result := .next (setR8 6 .c s)

/-- `SET 6,D` (R202). -/
def execSet6D (s : State) : Result := .next (setR8 6 .d s)

/-- `SET 6,E` (R202). -/
def execSet6E (s : State) : Result := .next (setR8 6 .e s)

/-- `SET 6,H` (R202). -/
def execSet6H (s : State) : Result := .next (setR8 6 .h s)

/-- `SET 6,L` (R202). -/
def execSet6L (s : State) : Result := .next (setR8 6 .l s)

/-- `SET 6,(HL)` (R203). -/
def execSet6AtHl (s : State) : Result := .next (setR8 6 .atHl s)

/-- `SET 6,A` (R202). -/
def execSet6A (s : State) : Result := .next (setR8 6 .a s)

/-- `SET 7,B` (R202). -/
def execSet7B (s : State) : Result := .next (setR8 7 .b s)

/-- `SET 7,C` (R202). -/
def execSet7C (s : State) : Result := .next (setR8 7 .c s)

/-- `SET 7,D` (R202). -/
def execSet7D (s : State) : Result := .next (setR8 7 .d s)

/-- `SET 7,E` (R202). -/
def execSet7E (s : State) : Result := .next (setR8 7 .e s)

/-- `SET 7,H` (R202). -/
def execSet7H (s : State) : Result := .next (setR8 7 .h s)

/-- `SET 7,L` (R202). -/
def execSet7L (s : State) : Result := .next (setR8 7 .l s)

/-- `SET 7,(HL)` (R203). -/
def execSet7AtHl (s : State) : Result := .next (setR8 7 .atHl s)

/-- `SET 7,A` (R202). -/
def execSet7A (s : State) : Result := .next (setR8 7 .a s)

end Sys2Proof.Machine
end

