-- ==== Sys2Proof/Machine/System.lean ====
section
/-! DEFINITION. System instructions and the bytes without one (spec 46_system.md R215 to R220): the shared
operations, then one definition per instruction. -/

namespace Sys2Proof.Machine

/-- `NOP` (R215). -/
def noOperation (s : State) : State := s.retire 1 1

/-- `DI`: IME and any pending enable are cleared (R216). -/
def disableInterrupts (s : State) : State := ((s.setIme false).setImePending false).retire 1 1

/-- `EI`: with `EI_DELAY` 0 it sets IME at once, with 1 it sets `imePending`, which the next instruction's
end moves into IME; EI's own end moves nothing (R217, R230). -/
def enableInterrupts (s : State) : State :=
  ((if s.eiDelay then s.setImePending true else s.setIme true).setPc (s.pc + 1)).spend 1

/-- `runState <- Halted` (R218). -/
def State.haltRun (s : State) : State := { s with run := .halted }

/-- `HALT`: PC holds the address of the next instruction while halted (R218). -/
def haltCpu (s : State) : State := s.haltRun.retire 1 1

/-- `STOP`: nothing but the fault record changes (R219). -/
def stopCpu (s : State) : State := s.raiseFault (.stopUnimplemented s.pc)

/-- A byte without an instruction: nothing but the fault record changes (R220). -/
def illegalByte (op : Byte) (s : State) : State := s.raiseFault (.illegalOpcode s.pc op)

/-- `(illegal)` (R220). -/
def execIllegal (op : Byte) (s : State) : Result := .next (illegalByte op s)

/-- `NOP` (R215). -/
def execNop (s : State) : Result := .next (noOperation s)

/-- `STOP` (R219). -/
def execStop (s : State) : Result := .next (stopCpu s)

/-- `HALT` (R218). -/
def execHalt (s : State) : Result := .next (haltCpu s)

/-- `DI` (R216). -/
def execDi (s : State) : Result := .next (disableInterrupts s)

/-- `EI` (R217). -/
def execEi (s : State) : Result := .next (enableInterrupts s)

end Sys2Proof.Machine
end

