-- ==== Sys2Proof/Machine/Render.lean ====
section
/-! DEFINITION. Rendering one line, pixel by pixel (spec 60_exceptions.md R256 to R263). The controller
reads video RAM and OAM directly, not over the bus (R257). -/

namespace Sys2Proof.Machine

/-- A rendered pixel: its shade and whether it is opaque (R256). -/
structure Pixel where
  shade  : Shade
  solid  : Bool
  deriving DecidableEq, Repr

/-- A pixel of the empty line: shade 0, transparent (R256). -/
def Pixel.clear : Pixel := ⟨0, false⟩

/-- `map(P, c) = (P >> 2c) & 3` (R47). -/
def paletteMap (p : Byte) (c : BitVec 2) : Shade := p.extractLsb' (2 * c.toNat) 2

/-- Colour index `2 * msb[i] + lsb[i]` of a tile row's byte pair (R257). -/
def colorAt (msb lsb : Byte) (i : Nat) : BitVec 2 :=
  BitVec.ofNat 2 (2 * (msb.getLsbD i).toNat + (lsb.getLsbD i).toNat)

/-- Pixel column k of row r of the tile at `base`: bit 7 - k of the pair at base + 2r (R257). -/
def tileColor (m : Mem) (base r k : Nat) : BitVec 2 :=
  colorAt (Mem.read m (base + 2 * r + 1)) (Mem.read m (base + 2 * r)) (7 - k)

/-- The base of background and window tile i: 0x8000 + 16 i when LCDC bit 4 is 1, else
0x8800 + 16 (i XOR 0x80) (R257). -/
def tileBase (lcdc : Byte) (i : Byte) : Nat :=
  if lcdc.getLsbD 4 then 0x8000 + 16 * i.toNat else 0x8800 + 16 * (i ^^^ 0x80).toNat

/-- The base of a tile map: 0x9800, or 0x9C00 when its LCDC bit is 1 (R258, R259). -/
def mapBase (high : Bool) : Nat := if high then 0x9C00 else 0x9800

/-- Colour of pixel (x, y) of the tile map at `base` (R258, R259). -/
def mapColor (m : Mem) (lcdc : Byte) (base x y : Nat) : BitVec 2 :=
  tileColor m (tileBase lcdc (Mem.read m (base + 32 * (y / 8) + x / 8))) (y % 8) (x % 8)

/-- A background or window pixel of colour c: the palette's shade, opaque iff the raw colour is not 0
(R258). -/
def planePixel (bgp : Byte) (c : BitVec 2) : Pixel := ⟨paletteMap bgp c, c != 0⟩

/-- Pixel x of `bgLine(ly)` (R258). -/
def bgPixel (l : Lcd) (m : Mem) (ly x : Nat) : Pixel :=
  planePixel l.bgp (mapColor m l.lcdc (mapBase (l.lcdc.getLsbD 3))
    ((x + l.scx.toNat) % Config.bgSize) ((ly + l.scy.toNat) % Config.bgSize))

/-- `windowVisible(ly)` (R259): WX in 7..166. -/
def windowVisible (l : Lcd) (ly : Nat) : Bool :=
  l.lcdc.getLsbD 5 && decide (l.wy.toNat ≤ ly) && decide (7 ≤ l.wx.toNat) &&
    decide (l.wx.toNat - 7 < Config.lcdWidth)

/-- Pixel w of `windowRow(n)` (R259). -/
def windowPixel (l : Lcd) (m : Mem) (n w : Nat) : Pixel :=
  planePixel l.bgp (mapColor m l.lcdc (mapBase (l.lcdc.getLsbD 6)) w n)

/-- Pixel x of the background and window line: the background where it is enabled, else clear, and the
window row joined from column WX - 7 on where the window is visible (R256, R259). -/
def linePixel (l : Lcd) (m : Mem) (ly x : Nat) : Pixel :=
  if windowVisible l ly && decide (l.wx.toNat - 7 ≤ x) then windowPixel l m l.winLine (x - (l.wx.toNat - 7))
  else if l.lcdc.getLsbD 0 then bgPixel l m ly x
  else Pixel.clear

/-- One entry of the object table (R260). -/
structure Sprite where
  y    : Byte
  x    : Byte
  tile : Byte
  attr : Byte
  deriving DecidableEq, Repr

/-- OAM entry j, the 4 bytes at 0xFE00 + 4j (R260). -/
def oamEntry (m : Mem) (j : Nat) : Sprite where
  y := Mem.read m (0xFE00 + 4 * j)
  x := Mem.read m (0xFE00 + 4 * j + 1)
  tile := Mem.read m (0xFE00 + 4 * j + 2)
  attr := Mem.read m (0xFE00 + 4 * j + 3)

/-- The sprite height: 8, or 16 when LCDC bit 2 is 1 (R261). -/
def spriteHeight (lcdc : Byte) : Nat := if lcdc.getLsbD 2 then 16 else 8

/-- Whether a sprite is selected for line ly: `0 <= ly - (Y - 16) < h` (R261). -/
def Sprite.covers (h ly : Nat) (o : Sprite) : Bool :=
  decide (o.y.toNat ≤ ly + 16) && decide (ly + 16 < o.y.toNat + h)

/-- Insertion by X that keeps the order of equal X (R261). -/
def insertByX (o : Sprite) : List Sprite → List Sprite
  | [] => [o]
  | p :: ps => if o.x.toNat ≤ p.x.toNat then o :: p :: ps else p :: insertByX o ps

/-- Sprites sorted by X ascending, equal X by their order in the list (R261). -/
def sortByX : List Sprite → List Sprite
  | [] => []
  | o :: os => insertByX o (sortByX os)

/-- The sprites selected for a line, first found in table order and at most 10 of them (R261). -/
def selectSprites (l : Lcd) (m : Mem) (ly : Nat) : List Sprite :=
  (((List.range Config.oamEntries).map (oamEntry m)).filter
    (Sprite.covers (spriteHeight l.lcdc) ly)).take Config.maxSpritesPerLine

/-- Colour of a selected sprite at screen column x, none where the sprite has no pixel (R262). -/
def spriteColor (m : Mem) (h ly : Nat) (o : Sprite) (x : Nat) : Option (BitVec 2) :=
  if o.x.toNat ≤ x + 8 ∧ x + 8 < o.x.toNat + 8 then
    let r0 := ly + 16 - o.y.toNat
    let r := if o.attr.getLsbD 6 then h - 1 - r0 else r0
    let t := if h = 16 then (o.tile &&& 0xFE).toNat else o.tile.toNat
    let k := x + 8 - o.x.toNat
    let i := if o.attr.getLsbD 5 then k else 7 - k
    some (colorAt (Mem.read m (0x8000 + 16 * t + 2 * r + 1)) (Mem.read m (0x8000 + 16 * t + 2 * r)) i)
  else none

/-- The pixel a selected sprite puts on screen column x: its palette's shade, opaque iff its colour is not
0 (R262, R48, R49). -/
def spritePixel (l : Lcd) (m : Mem) (ly x : Nat) (o : Sprite) : Pixel :=
  match spriteColor m (spriteHeight l.lcdc) ly o x with
  | none => Pixel.clear
  | some c => ⟨paletteMap (if o.attr.getLsbD 4 then l.obp1 else l.obp0) c, c != 0⟩

/-- Pixel x of one sprite sub-line: of the sprites with this BEHIND bit, the first in priority order that
is opaque there (R262). -/
def subLinePixel (l : Lcd) (m : Mem) (ly x : Nat) (behind : Bool) (sprites : List Sprite) : Pixel :=
  (((sprites.filter (fun o => o.attr.getLsbD 7 == behind)).map (spritePixel l m ly x)).find?
    (fun px => px.solid)).getD Pixel.clear

/-- The sprites of a line in priority order; none where LCDC bit 1 is 0 (R256, R261). -/
def lineSprites (l : Lcd) (m : Mem) (ly : Nat) : List Sprite :=
  if l.lcdc.getLsbD 1 then sortByX (selectSprites l m ly) else []

/-- `composite` at one column (R263): an opaque foreground sprite, else an opaque background or window
pixel, else an opaque background-priority sprite, else the background's own shade. -/
def composite (line bg fg : Pixel) : Shade :=
  if fg.solid then fg.shade
  else if line.solid then line.shade
  else if bg.solid then bg.shade
  else line.shade

/-- Pixel x of the rendered line ly (R256). -/
def renderPixel (l : Lcd) (m : Mem) (ly : Nat) (sprites : List Sprite) (x : Nat) : Shade :=
  composite (linePixel l m ly x) (subLinePixel l m ly x true sprites) (subLinePixel l m ly x false sprites)

/-- The row of shades of line ly (R256). -/
def renderRow (l : Lcd) (m : Mem) (ly : Nat) : Row :=
  Vector.ofFn (fun x : Fin Config.lcdWidth => renderPixel l m ly (lineSprites l m ly) x.val)

/-- `renderLine(ly)`: the row goes into the frame, and the window's row counter advances on a line where
the window is drawn (R256, R259). -/
def State.renderLine (ly : Nat) (s : State) : State :=
  { s with lcd := { s.lcd with
      frame := s.lcd.frame.setIfInBounds ly (renderRow s.lcd s.mem ly)
      winLine := if windowVisible s.lcd ly then s.lcd.winLine + 1 else s.lcd.winLine } }

end Sys2Proof.Machine
end

