-- ==== Sys2Proof/Machine/Ppu.lean ====
section
/-! DEFINITION. The LCD controller's step: the DMA step, then the state machine over lines and modes
(spec 60_exceptions.md R249, R250, R269). -/

namespace Sys2Proof.Machine

/-- The DMA step: one byte over the bus into OAM while a copy runs (R269). -/
def dmaStep (s : State) : State :=
  if s.dma.active then
    let s' := s.poke (0xFE00 + s.dma.index) (s.busRead (s.dma.source + BitVec.ofNat 16 s.dma.index))
    { s' with dma := ⟨s.dma.index + 1 != Config.dmaLength, s.dma.source, s.dma.index + 1⟩ }
  else s

/-- `p = (t - lineOrigin) mod FRAME_CYCLES`, the cycle's place in its frame (R250). -/
def State.framePlace (s : State) : Nat := (s.cycle - s.lcd.lineOrigin) % Config.frameCycles

/-- `LY <- ln` at the start of a line (R250). -/
def State.setLy (ln : Nat) (s : State) : State :=
  { s with lcd := { s.lcd with ly := BitVec.ofNat 8 ln } }

/-- `winLine <- 0` at the frame's start (R250). -/
def State.clearWinLine (s : State) : State := { s with lcd := { s.lcd with winLine := 0 } }

/-- Entering the first V-blank line: the frame is finished and VBlank requested (R250, R270). -/
def State.finishFrame (s : State) : State :=
  State.raise 0 { s with lcd := { s.lcd with
      latestImage := s.lcd.frame, framesCompleted := s.lcd.framesCompleted + 1 } }

/-- The start of line ln (R250, c = 0). DESIGN CHOICE, safe (log entry 17): line 0 of a later frame leaves
`lineOrigin` as reset or the last turn-on set it. R53 calls it the cycle at which line 0 of the current frame
started, while R250 takes the place in the frame mod FRAME_CYCLES and R254 alone moves it; every place in a
frame is the same under both readings. -/
def State.startLine (ln : Nat) (s : State) : State :=
  let s1 := (s.setLy ln).lycCompare
  let s2 := if ln = 0 then s1.clearWinLine else s1
  let s3 := if ln < Config.visibleLines then s2.enterMode 2 else s2
  if ln = Config.visibleLines then s3.finishFrame.enterMode 1 else s3

/-- The state machine's step while the display is on (R250). -/
def State.ppuStep (s : State) : State :=
  let ln := s.framePlace / Config.lineCycles
  let c := s.framePlace % Config.lineCycles
  if c = 0 then s.startLine ln
  else if ln < Config.visibleLines ∧ c = Config.n2 then (s.renderLine ln).enterMode 3
  else if ln < Config.visibleLines ∧ c = Config.n2 + Config.n3 then s.enterMode 0
  else s

/-- The LCD controller's step: first DMA, then the state machine if the display is on (R250). -/
def lcdStep (s : State) : State :=
  let s' := dmaStep s
  match s'.lcd.power with
  | .off => s'
  | .on => s'.ppuStep

end Sys2Proof.Machine
end

