-- ==== Sys2Proof/Machine/Cpu.lean ====
section
/-! DEFINITION. Fetching, the CPU's step at one cycle and the step of the whole machine over one cycle
(spec 60_exceptions.md R221, R227, R228, R230), and placing an instruction where the fetch finds it. -/

namespace Sys2Proof.Machine

/-- The instruction at PC: the bytes at pc, pc + 1 and pc + 2 over the bus, wrapping at 0xFFFF (R82, R84,
R93). Reading a byte the instruction does not have changes nothing (R77: reads have no side effect). -/
def State.fetch (s : State) : Instr :=
  decode3 (s.busRead s.pc) (s.busRead (s.pc + 1)) (s.busRead (s.pc + 2))

/-- A halted CPU with an enabled pending interrupt wakes at the current cycle (R227). -/
def State.wake (s : State) : State :=
  match s.run with
  | .running => s
  | .halted => { s with run := .running, nextActive := s.cycle }

/-- Whether the CPU does nothing at this cycle: halted with no enabled line pending, or running with the
cycles of its last action not yet spent (R227). -/
def State.idle (s : State) : Bool :=
  match s.run with
  | .halted => s.pending == 0
  | .running => decide (s.cycle < s.nextActive)

/-- Whether the CPU services an interrupt instead of fetching (R227, R228). -/
def State.interrupted (s : State) : Bool := s.ime && s.pending != 0

/-- The CPU's step at the cycle `s.cycle` (R227). -/
def cpuStep (s : State) : Host.Outcome State Fault Refusal :=
  if s.idle then .next s
  else if s.wake.interrupted then .next s.wake.serviceInterrupt
  else exec s.wake.fetch s.wake

/-- `cycle <- t + 1` (R221). -/
def State.nextCycle (s : State) : State := { s with cycle := s.cycle + 1 }

/-- The timer's step and then the LCD controller's, which come before the CPU's in a cycle (R221). -/
def deviceStep (s : State) : State := lcdStep (timerStep s)

/-- The machine's step over one cycle: timer, LCD controller, CPU, in that order; a machine with a recorded
fault takes no further step (R14, R221). -/
def cycleStep (s : State) : Host.Outcome State Fault Refusal :=
  match s.fault with
  | some f => .fault f
  | none =>
    match cpuStep (deviceStep s) with
    | .next t => .next t.nextCycle
    | .fault f => .fault f
    | .refused r => .refused r

/-- A byte stored where the bus reads it from, for an address of plain memory or of a `romOnly` cartridge's
ROM; elsewhere nothing is stored. -/
def State.placeByte (a : Word) (v : Byte) (s : State) : State :=
  if a.toNat < 0x8000 ∨ inLcdMemory a.toNat ∨ inHighRam a.toNat then s.poke a.toNat v
  else (workRamPlace a.toNat).elim s (fun place => s.poke place v)

/-- The machine with these bytes stored from PC on, made to act on them at the very next step: no fault
recorded, running, its cycles spent, interrupts masked, the boot overlay off and a ROM-only cartridge
answering its window (log entry 8). -/
def State.withBytesAtPc (bytes : List Byte) (s : State) : State :=
  let ready : State := { s with
    fault := none, run := .running, nextActive := s.cycle, ime := false,
    bootRomEnabled := false, cartridge := .romOnly }
  bytes.zipIdx.foldl (fun t (b, k) => t.placeByte (s.pc + BitVec.ofNat 16 k) b) ready

end Sys2Proof.Machine
end

