-- ==== Sys2Proof/Machine/Step.lean ====
section
/-! DEFINITION. One step of the machine, which is one machine cycle (spec 00_scope.md R6, 60_exceptions.md
R221), and the state with an instruction placed where the step fetches. -/

namespace Sys2Proof.Machine

/-- One machine cycle (R6, R221). -/
def step (s : State) : Host.Outcome State Fault Refusal := cycleStep s

/-- The state with the instruction of the opcode table's number `w` of `nbits` bits stored at PC, zeros
after it, so that the very next step fetches and runs it (log entry 8). -/
def State.withFetchWord (s : State) (nbits w : Nat) : State := s.withBytesAtPc (tableBytes nbits w)

end Sys2Proof.Machine
end

