-- ==== Sys2Proof/Machine/Planes.lean ====
section
/-! DEFINITION. The source's pixel-plane representation of a line (spec 60_exceptions.md R264 to R267). The
machine renders pixel by pixel (Render.lean); these operations are the source's other description of the
same pixels ("a model may use either"). -/

namespace Sys2Proof.Machine

/-- A BitVector of length L: bit 0 first (R264). -/
abbrev Plane (n : Nat) := BitVec n

/-- A length a plane may have: a positive multiple of the 32-bit word (R264, D49). -/
def planeLength (n : Nat) : Bool := decide (0 < n) && n % 32 == 0

/-- The plane whose bit i is `bit i` (R264). -/
def planeOf (n : Nat) (bit : Nat → Bool) : Plane n :=
  BitVec.ofFnLE (fun i : Fin n => bit i.val)

/-- `extractWrapped(s, n)`: bit i is `v[(s + i) mod L]` (R264). -/
def extractWrapped {len : Nat} (v : Plane len) (s : Int) (n : Nat) : Plane n :=
  planeOf n (fun i => v.getLsbD ((s + (i : Int)) % (len : Int)).toNat)

/-- `extractZeroExtended(s, n)`: bit i is `v[s + i]` inside the vector and 0 outside (R264). -/
def extractZeroExtended {len : Nat} (v : Plane len) (s : Int) (n : Nat) : Plane n :=
  planeOf n (fun i =>
    if 0 ≤ s + (i : Int) ∧ s + (i : Int) < (len : Int) then v.getLsbD (s + (i : Int)).toNat else false)

/-- `shift(d)` "is defined exactly as `extractZeroExtended(-d, size())`" (R264). -/
def shiftPlane {len : Nat} (v : Plane len) (d : Int) : Plane len := extractZeroExtended v (-d) len

/-- A pixel line as three planes (R266). -/
structure PixelLine (n : Nat) where
  msb   : Plane n
  lsb   : Plane n
  solid : Plane n
  deriving DecidableEq, Repr

/-- Pixel i of a line (R266). -/
def PixelLine.pixel {n : Nat} (l : PixelLine n) (i : Nat) : Pixel :=
  ⟨BitVec.ofNat 2 (2 * (l.msb.getLsbD i).toNat + (l.lsb.getLsbD i).toNat), l.solid.getLsbD i⟩

/-- The line built from byte pairs, eight pixels each: pixel 8j + k takes bit 7 - k of pair j, and opacity
is msb | lsb (R266). -/
def PixelLine.ofBytes (n : Nat) (pairs : Nat → Byte × Byte) : PixelLine n where
  msb := planeOf n (fun i => (pairs (i / 8)).1.getLsbD (7 - i % 8))
  lsb := planeOf n (fun i => (pairs (i / 8)).2.getLsbD (7 - i % 8))
  solid := planeOf n (fun i =>
    (pairs (i / 8)).1.getLsbD (7 - i % 8) || (pairs (i / 8)).2.getLsbD (7 - i % 8))

/-- `mapColors(P)`: each colour through the palette, opacity kept (R267). -/
def PixelLine.mapColors {n : Nat} (p : Byte) (l : PixelLine n) : PixelLine n where
  msb := planeOf n (fun i => (paletteMap p (l.pixel i).shade).getLsbD 1)
  lsb := planeOf n (fun i => (paletteMap p (l.pixel i).shade).getLsbD 0)
  solid := l.solid

/-- `below(that, mask)`: that line's colour where the mask is set and this line's elsewhere (R267). -/
def PixelLine.belowMask {n : Nat} (l that : PixelLine n) (mask : Plane n) : PixelLine n where
  msb := (that.msb &&& mask) ||| (l.msb &&& ~~~mask)
  lsb := (that.lsb &&& mask) ||| (l.lsb &&& ~~~mask)
  solid := l.solid ||| mask

/-- `below(that)`: the mask is that line's opacity (R267). -/
def PixelLine.below {n : Nat} (l that : PixelLine n) : PixelLine n := l.belowMask that that.solid

/-- `join(that, k)`: pixels below k from this line, the others from `that` (R267). -/
def PixelLine.join {n : Nat} (l that : PixelLine n) (k : Nat) : PixelLine n where
  msb := planeOf n (fun i => if i < k then l.msb.getLsbD i else that.msb.getLsbD i)
  lsb := planeOf n (fun i => if i < k then l.lsb.getLsbD i else that.lsb.getLsbD i)
  solid := planeOf n (fun i => if i < k then l.solid.getLsbD i else that.solid.getLsbD i)

/-- `extractWrapped` of a line, plane by plane (R267). -/
def PixelLine.extractWrapped {len : Nat} (l : PixelLine len) (s : Int) (n : Nat) : PixelLine n where
  msb := Machine.extractWrapped l.msb s n
  lsb := Machine.extractWrapped l.lsb s n
  solid := Machine.extractWrapped l.solid s n

/-- `extractZeroExtended` of a line, plane by plane (R267). -/
def PixelLine.extractZeroExtended {len : Nat} (l : PixelLine len) (s : Int) (n : Nat) : PixelLine n where
  msb := Machine.extractZeroExtended l.msb s n
  lsb := Machine.extractZeroExtended l.lsb s n
  solid := Machine.extractZeroExtended l.solid s n

/-- `shift(d)` of a line, plane by plane (R264, R267). -/
def PixelLine.shift {n : Nat} (l : PixelLine n) (d : Int) : PixelLine n := l.extractZeroExtended (-d) n

/-- The byte pair of tile column j of row y of the tile map at `base` (R257, R258). -/
def mapRowPairs (m : Mem) (lcdc : Byte) (base y : Nat) (j : Nat) : Byte × Byte :=
  let tile := tileBase lcdc (Mem.read m (base + 32 * (y / 8) + j))
  (Mem.read m (tile + 2 * (y % 8) + 1), Mem.read m (tile + 2 * (y % 8)))

/-- The 256-pixel row y of the tile map at `base` (R266, R267). -/
def mapRowLine (m : Mem) (lcdc : Byte) (base y : Nat) : PixelLine 256 :=
  PixelLine.ofBytes 256 (mapRowPairs m lcdc base y)

/-- The background line as planes: `extractWrapped(SCX, 160).mapColors(BGP)` of the map row (R267). -/
def bgLinePlanes (l : Lcd) (m : Mem) (ly : Nat) : PixelLine 160 :=
  ((mapRowLine m l.lcdc (mapBase (l.lcdc.getLsbD 3)) ((ly + l.scy.toNat) % Config.bgSize)).extractWrapped
    l.scx.toNat 160).mapColors l.bgp

/-- The window line as planes, not yet joined:
`extractZeroExtended(0, 160).mapColors(BGP).shift(WX - 7)` of the window's map row (R267). -/
def windowLinePlanes (l : Lcd) (m : Mem) (n : Nat) : PixelLine 160 :=
  (((mapRowLine m l.lcdc (mapBase (l.lcdc.getLsbD 6)) n).extractZeroExtended 0 160).mapColors l.bgp).shift
    ((l.wx.toNat : Int) - 7)

/-- The composite as planes:
`bgSprites.below(line, line.opacity or not bgSprites.opacity).below(fgSprites)` (R267). -/
def compositePlanes {n : Nat} (line bg fg : PixelLine n) : PixelLine n :=
  (bg.belowMask line (line.solid ||| ~~~bg.solid)).below fg

end Sys2Proof.Machine
end

