-- ==== Sys2Proof/Machine/HostActions.lean ====
section
/-! DEFINITION. What the host can do to the machine between steps (spec 60_exceptions.md R221, R226, R270,
R271) and the ways a run ends (70_reset_and_hazards.md R277). -/

namespace Sys2Proof.Machine

/-- The machine after at most `n` more cycles, standing still once a fault is recorded (R14, R221). -/
def runCycles : Nat → State → State
  | 0, s => s
  | n + 1, s =>
    match step s with
    | .next t => runCycles n t
    | .fault _ => s
    | .refused _ => s

/-- `runUntil(target)` (R221): a target below the simulated cycle is a recorded fault before any step, and
a call on a faulted machine changes nothing. -/
def State.runUntil (target : Nat) (s : State) : State :=
  match s.fault with
  | some _ => s
  | none =>
    if target < s.cycle then s.raiseFault (.clockNotMonotonic s.cycle target)
    else runCycles (target - s.cycle) s

/-- The host presses a key between two calls: the joypad component takes the event and raises line 4 when
it raises it (R226). -/
def State.keyPressed (k : Config.Key) (s : State) : State :=
  let events := s.joypad ++ [.press k]
  let s' : State := { s with joypad := events }
  if Config.joypadRaises events then s'.raise 4 else s'

/-- The host releases a key between two calls (R271). -/
def State.keyReleased (k : Config.Key) (s : State) : State :=
  { s with joypad := s.joypad ++ [.release k] }

/-- The latest completed frame as a grid, (x, y) to a shade (R270). -/
def State.screen (s : State) (x : Fin Config.lcdWidth) (y : Fin Config.lcdHeight) : Shade :=
  (s.lcd.latestImage.get y).get x

/-- A dead halt: Halted with no line enabled, so that no later cycle can wake the CPU (R277 c). -/
def State.deadHalt (s : State) : Bool := (s.run == .halted) && (s.ie &&& 0x1F == 0)

/-- How a run that was asked to reach `target` has ended (R277). -/
inductive RunEnd where
  | targetReached
  | faulted (f : Fault)
  | deadHalt
  | stillRunning
  deriving DecidableEq, Repr

/-- The way a run to `target` has ended in this state, one of R277's three or none yet. DESIGN CHOICE, safe
(log entry 18): R277 gives no precedence between (a) and (c), and a run that has reached its target in a dead
halt meets both; this order answers the target then, so a dead halt only before the target. A fault excludes
(a) by R277's own words and is answered before (c) as well, again the model's choice. `State.deadHalt` says
(c) without any order. -/
def State.runEnd (target : Nat) (s : State) : RunEnd :=
  match s.fault with
  | some f => .faulted f
  | none =>
    if target ≤ s.cycle then .targetReached
    else if s.deadHalt then .deadHalt
    else .stillRunning

end Sys2Proof.Machine
end

