-- ==== Sys2Proof/Safety.lean ====
section
/-! DEFINITION. What counts as a good state of the machine: the invariants that every step keeps
(spec 10_state.md R22, R33, R34, R40, R41, R44, R52 to R54; 60_exceptions.md R249, R250, R252), a state
with no fault recorded, and a state whose CPU fetches at this cycle. -/

namespace Sys2Proof.Machine

/-- No fault is recorded: the premise "every claim takes" (R277, R35). -/
def State.NoFault (s : State) : Prop := s.fault = none

/-- The CPU fetches and executes at the current cycle: it is awake or wakes, its cycles are spent, and no
interrupt is serviced instead (R227, R228). -/
def State.Fetches (s : State) : Prop := s.idle = false ∧ s.wake.interrupted = false

/-- The CPU's and the memory's part of the invariant, kept by every single action of a cycle. -/
structure State.CoreInv (s : State) : Prop where
  /-- Memory is in canonical form. -/
  memory : s.mem.wf = true
  /-- F's low four bits are zero (R22). -/
  flags : s.regs.f &&& 0x0F = 0
  /-- With `EI_DELAY` 0 there is no pending enable (R34). -/
  pending : s.eiDelay = false → s.imePending = false
  /-- The overlay is enabled only where a boot ROM is given (R52). -/
  overlay : s.bootRomEnabled = true → s.bootRom.isSome = true
  /-- The DMA index stays in 0..160, below 160 while a copy runs (R54, R269). -/
  dmaIndex : s.dma.index ≤ Config.dmaLength ∧ (s.dma.active = true → s.dma.index < Config.dmaLength)
  /-- The DMA source is a page base (R54, R268). -/
  dmaSource : lo8 s.dma.source = 0

/-- The place in its frame of the last cycle the display stepped in (R250). -/
def State.lastPlace (s : State) : Nat := (s.cycle - 1 - s.lcd.lineOrigin) % Config.frameCycles

/-- The mode of a place in a frame: 2, 3 and 0 along a visible line, 1 in the V-blank band (R249, R250). -/
def modeOfPlace (p : Nat) : BitVec 2 :=
  if Config.visibleLines ≤ p / Config.lineCycles then 1
  else if p % Config.lineCycles < Config.n2 then 2
  else if p % Config.lineCycles < Config.n2 + Config.n3 then 3
  else 0

/-- The lines rendered in a frame up to and including a place in it (R250, R256). -/
def linesRendered (p : Nat) : Nat :=
  min Config.visibleLines
    (p / Config.lineCycles + (if Config.n2 ≤ p % Config.lineCycles then 1 else 0))

/-- Whether the display has stepped since it was last turned on (or the machine reset). -/
def State.stepped (s : State) : Prop := s.lcd.power = .on ∧ s.lcd.lineOrigin < s.cycle

/-- The LCD controller's part of the invariant, between two cycles. -/
structure State.DisplayInv (s : State) : Prop where
  /-- A frame has not started in the future. -/
  origin : s.lcd.lineOrigin ≤ s.cycle
  /-- The display is on exactly when LCDC bit 7 is 1 (R40, R53). -/
  power : (s.lcd.power = .on) ↔ s.lcd.lcdc.getLsbD 7 = true
  /-- Off, LY and the mode are 0 (R44, R253). -/
  off : s.lcd.power = .off → s.lcd.ly = 0 ∧ s.lcd.mode = 0
  /-- So they are before the first step after turning on (R254). -/
  fresh : s.lcd.power = .on → s.lcd.lineOrigin = s.cycle → s.lcd.ly = 0 ∧ s.lcd.mode = 0
  /-- On, LY is the line of the last cycle's place in its frame (R44, R250). -/
  line : s.stepped → s.lcd.ly = BitVec.ofNat 8 (s.lastPlace / Config.lineCycles)
  /-- On, STAT's mode is that of the last cycle's place in its frame (R41, R249). -/
  mode : s.stepped → s.lcd.mode = modeOfPlace s.lastPlace
  /-- STAT bit 2 is the result of the last comparison of LY with LYC (R41, R252). -/
  compare : s.lcd.power = .off ∨ s.stepped → s.lcd.stat.getLsbD 2 = decide (s.lcd.ly = s.lcd.lyc)
  /-- The window has been drawn on at most 144 lines (R53, R259). -/
  window : s.lcd.winLine ≤ Config.visibleLines
  /-- On, on at most the lines rendered in this frame so far (R259). -/
  windowLines : s.stepped → s.lcd.winLine ≤ linesRendered s.lastPlace

/-- The invariant of the whole machine between two cycles. -/
structure State.Inv (s : State) : Prop where
  core : s.CoreInv
  display : s.DisplayInv
  /-- The CPU next acts within 5 cycles (R232: no action consumes more than 6). -/
  active : s.nextActive ≤ s.cycle + 5

end Sys2Proof.Machine
end

