-- ==== Sys2Proof/Certificates/Slice0/Obligations.lean ====
section
/-! DEFINITION. The statements about the model, one `def Obligations.<Name> : Prop` each. The namespace
`Sys2Proof.Rules` in front of them holds what they are written in: the opcode patterns and operand fields of
spec 30_encoding.md as bytes built from their fields, and what an instruction may write. A statement about
an opcode pattern holds for every byte of the pattern and for all operand bytes b1 and b2; where the pattern
has fewer operand bytes, the others are the bytes that happen to follow. -/

namespace Sys2Proof.Rules

open Sys2Proof.Machine

/-! ### Opcode bytes from their fields (R87) -/

/-- The byte `xx yyy zzz`. -/
def opcode (x : BitVec 2) (y z : BitVec 3) : Byte := x ++ y ++ z

/-- The byte `xx ppq zzz`. -/
def opcodeP (x p : BitVec 2) (q : BitVec 1) (z : BitVec 3) : Byte := x ++ p ++ q ++ z

/-- The byte `11 0cc zzz` of a conditional JP, CALL or RET (R90). -/
def opcodeIf (cc : BitVec 2) (z : BitVec 3) : Byte := 0b110#3 ++ cc ++ z

/-- The byte `00 1cc 000` of a conditional JR (R90, R208). -/
def opcodeJrIf (cc : BitVec 2) : Byte := 0b001#3 ++ cc ++ 0b000#3

/-- `n16` from its two bytes in memory order (R93). -/
def imm16 (b1 b2 : Byte) : Word := b2 ++ b1

/-! ### Operands (R88, R89) -/

/-- The register of an 8-bit operand field; 6 is not a register (R88). -/
def regOf (z : BitVec 3) : Reg8 :=
  match z.toNat with
  | 0 => .b
  | 1 => .c
  | 2 => .d
  | 3 => .e
  | 4 => .h
  | 5 => .l
  | _ => .a

/-- `x[HL]` (R23). -/
def hlOf (s : State) : Word := s.regs.h ++ s.regs.l

/-- The byte of an 8-bit operand field: a register, or for 6 the byte at HL (R88). -/
def operand (s : State) (z : BitVec 3) : Byte := if z = 6 then s.busRead (hlOf s) else s.reg (regOf z)

/-- Writing an 8-bit operand field: a register, or for 6 the byte at HL (R88). -/
def putOperand (z : BitVec 3) (v : Byte) (s : State) : State :=
  if z = 6 then s.busWrite (hlOf s) v else s.setReg (regOf z) v

/-- The high and the low register of a pair field; 3 is not a pair of registers but SP or AF (R23, R89). -/
def pairOf (p : BitVec 2) : Reg8 × Reg8 :=
  match p.toNat with
  | 0 => (.b, .c)
  | 1 => (.d, .e)
  | 2 => (.h, .l)
  | _ => (.a, .f)

/-- A pair read, the first-named register the high byte (R23). -/
def readPair (s : State) (p : BitVec 2) : Word := s.reg (pairOf p).1 ++ s.reg (pairOf p).2

/-- A pair written, both slots (R24). -/
def putPair (p : BitVec 2) (v : Word) (s : State) : State :=
  (s.setReg (pairOf p).1 (v.extractLsb' 8 8)).setReg (pairOf p).2 (v.extractLsb' 0 8)

/-- `r16(p)` read: BC, DE, HL, SP (R89). -/
def read16 (s : State) (p : BitVec 2) : Word := if p = 3 then s.sp else readPair s p

/-- `r16(p)` written: BC, DE, HL, SP (R89). -/
def put16 (p : BitVec 2) (v : Word) (s : State) : State := if p = 3 then { s with sp := v } else putPair p v s

/-- F with the flags a selector takes from a result and from the current F (R17, R140). -/
def putFlags {w : Nat} (sel : Selector) (r : AluResult w) (s : State) : State :=
  s.setReg .f (flags sel r (s.reg .f))

/-- Whether a condition field's condition holds (R29, R90). -/
def condition (s : State) (cc : BitVec 2) : Bool :=
  match cc.toNat with
  | 0 => !(s.reg .f).getLsbD 7
  | 1 => (s.reg .f).getLsbD 7
  | 2 => !(s.reg .f).getLsbD 4
  | _ => (s.reg .f).getLsbD 4

/-! ### The end of an instruction (R230 to R232) -/

/-- PC at `target`, the next action `cycles` later, and the enable that EI left pending when `EI_DELAY` is 1
taken over (R217, R230, R232). -/
def finishAt (target : Word) (cycles : Nat) (t : State) : State :=
  { t with
    pc := target
    nextActive := t.cycle + cycles
    ime := t.ime || (t.eiDelay && t.imePending)
    imePending := t.imePending && !t.eiDelay }

/-- PC past the instruction's bytes (R231), and the rest as in `finishAt`. -/
def finish (length cycles : Nat) (t : State) : State := finishAt (t.pc + BitVec.ofNat 16 length) cycles t

/-- `pushWord(v)`: the high byte at SP - 1, then the low byte at SP - 2, SP lower by 2 (R138, R209). -/
def pushed (v : Word) (s : State) : State :=
  { (s.busWrite (s.sp - 1) (v.extractLsb' 8 8)).busWrite (s.sp - 2) (v.extractLsb' 0 8) with sp := s.sp - 2 }

/-- What `popWord()` returns (R139, R211). -/
def popped (s : State) : Word := s.busRead (s.sp + 1) ++ s.busRead s.sp

/-! ### The operation fields (R91, R92) -/

/-- The ALU function of an ALU field on A, the operand and the C flag (R91, R141 to R164). -/
def aluFunction (y : BitVec 3) (a v : Byte) (c : Bool) : AluResult 8 :=
  match y.toNat with
  | 0 => aluAdd a v false
  | 1 => aluAdd a v c
  | 2 => aluSub a v false
  | 3 => aluSub a v c
  | 4 => aluAnd a v
  | 5 => aluXor a v
  | 6 => aluOr a v
  | _ => aluSub a v false

/-- The flag selector of an ALU field: `a0aa`, `a1aa`, `a010`, `a000` (R141 to R164). -/
def aluFlags (y : BitVec 3) : Selector :=
  match y.toNat with
  | 0 => ⟨.alu, .zero, .alu, .alu⟩
  | 1 => ⟨.alu, .zero, .alu, .alu⟩
  | 2 => ⟨.alu, .one, .alu, .alu⟩
  | 3 => ⟨.alu, .one, .alu, .alu⟩
  | 4 => ⟨.alu, .zero, .one, .zero⟩
  | 5 => ⟨.alu, .zero, .zero, .zero⟩
  | 6 => ⟨.alu, .zero, .zero, .zero⟩
  | _ => ⟨.alu, .one, .alu, .alu⟩

/-- An ALU operation of A with a byte: A takes the value, but for CP (7), and F the flags. -/
def aluInto (y : BitVec 3) (v : Byte) (s : State) : State :=
  let r := aluFunction y (s.reg .a) v ((s.reg .f).getLsbD 4)
  let t := putFlags (aluFlags y) r s
  if y = 7 then t else t.setReg .a r.value

/-- The function of a rotate field on the operand and the C flag (R92, R182 to R197). -/
def rotFunction (y : BitVec 3) (v : Byte) (c : Bool) : AluResult 8 :=
  match y.toNat with
  | 0 => rotate .left v
  | 1 => rotate .right v
  | 2 => rotateThrough .left v c
  | 3 => rotateThrough .right v c
  | 4 => shiftLeft v
  | 5 => shiftRightA v
  | 6 => aluSwap v
  | _ => shiftRightL v

/-! ### What an instruction may write, by its bytes (R28 and the instruction rules) -/

/-- The registers an instruction of the direct table names as written. -/
def directRegisters (b0 : Byte) : List Reg8 :=
  let y := fieldY b0
  let z := fieldZ b0
  let p := fieldP b0
  let q := fieldQ b0
  match (fieldX b0).toNat with
  | 0 =>
    match z.toNat with
    | 1 => if q then [.h, .l, .f] else if p = 3 then [] else [(pairOf p).1, (pairOf p).2]
    | 2 => (if q then [.a] else []) ++ (if 2 ≤ p.toNat then [.h, .l] else [])
    | 3 => if p = 3 then [] else [(pairOf p).1, (pairOf p).2]
    | 4 => if y = 6 then [.f] else [regOf y, .f]
    | 5 => if y = 6 then [.f] else [regOf y, .f]
    | 6 => if y = 6 then [] else [regOf y]
    | 7 => if y = 6 ∨ y = 7 then [.f] else [.a, .f]
    | _ => []
  | 1 => if y = 6 then [] else [regOf y]
  | 2 => if y = 7 then [.f] else [.a, .f]
  | _ =>
    match z.toNat with
    | 0 =>
      match y.toNat with
      | 5 => [.f]
      | 6 => [.a]
      | 7 => [.h, .l, .f]
      | _ => []
    | 1 => if q then [] else [(pairOf p).1, (pairOf p).2]
    | 2 => if y = 6 ∨ y = 7 then [.a] else []
    | 6 => if y = 7 then [.f] else [.a, .f]
    | _ => []

/-- The registers a prefixed instruction writes (R182 to R203). -/
def prefixedRegisters (b1 : Byte) : List Reg8 :=
  let target := if fieldZ b1 = 6 then [] else [regOf (fieldZ b1)]
  match (fieldX b1).toNat with
  | 0 => .f :: target
  | 1 => [.f]
  | _ => target

/-- The registers the instruction with these first two bytes may write (R28, R116 to R214). -/
def registersWritten (b0 b1 : Byte) : List Reg8 := if b0 = 0xCB then prefixedRegisters b1 else directRegisters b0

/-- The flags, as a mask of F, that the table under R28 does not mark `-` for the instruction. -/
def flagsWritten (b0 b1 : Byte) : Byte :=
  let y := fieldY b0
  let z := fieldZ b0
  if b0 = 0xCB then
    match (fieldX b1).toNat with
    | 0 => 0xF0
    | 1 => 0xE0
    | _ => 0
  else
    match (fieldX b0).toNat with
    | 0 =>
      match z.toNat with
      | 1 => if fieldQ b0 then 0x70 else 0
      | 4 => 0xE0
      | 5 => 0xE0
      | 7 =>
        match y.toNat with
        | 4 => 0xB0
        | 5 => 0x60
        | 6 => 0x70
        | 7 => 0x70
        | _ => 0xF0
      | _ => 0
    | 1 => 0
    | 2 => 0xF0
    | _ =>
      match z.toNat with
      | 0 => if y = 5 ∨ y = 7 then 0xF0 else 0
      | 1 => if b0 = 0xF1 then 0xF0 else 0
      | 6 => 0xF0
      | _ => 0

/-- The bytes whose instruction may write SP (R26): LD SP,n16, INC SP, DEC SP, POP, PUSH, RET, RET cc, RETI,
CALL, CALL cc, RST, ADD SP,e8, LD SP,HL. -/
def spWriters : List Byte :=
  [0x31, 0x33, 0x3B, 0xC0, 0xC1, 0xC4, 0xC5, 0xC7, 0xC8, 0xC9, 0xCC, 0xCD, 0xCF, 0xD0, 0xD1, 0xD4, 0xD5, 0xD7,
   0xD8, 0xD9, 0xDC, 0xDF, 0xE1, 0xE5, 0xE7, 0xE8, 0xEF, 0xF1, 0xF5, 0xF7, 0xF9, 0xFF]

/-- The bytes whose instruction sets PC when its condition, if it has one, holds (R204 to R214). -/
def pcWriters : List Byte :=
  [0x18, 0x20, 0x28, 0x30, 0x38, 0xC0, 0xC2, 0xC3, 0xC4, 0xC7, 0xC8, 0xC9, 0xCA, 0xCC, 0xCD, 0xCF, 0xD0, 0xD2,
   0xD4, 0xD7, 0xD8, 0xD9, 0xDA, 0xDC, 0xDF, 0xE7, 0xE9, 0xEF, 0xF7, 0xFF]

/-- Whether the instruction with this first byte is taken: its condition holds, or it has none
(R205, R208, R210, R212). -/
def taken (s : State) (b0 : Byte) : Bool :=
  if fieldX b0 = 3 ∧ fieldY b0 < 4 ∧ (fieldZ b0 = 0 ∨ fieldZ b0 = 2 ∨ fieldZ b0 = 4) then
    condition s ((fieldY b0).setWidth 2)
  else if fieldX b0 = 0 ∧ fieldZ b0 = 0 ∧ 4 ≤ fieldY b0 then condition s ((fieldY b0 - 4).setWidth 2)
  else true

/-- The addresses an instruction of the direct table stores to, in the order it stores to them
(R119, R120, R123, R124, R127, R128, R130, R132, R134, R136, R138, R166, R168, R209, R210, R214). -/
def directStores (b0 b1 b2 : Byte) (s : State) : List Word :=
  let stack : List Word := [s.sp - 1, s.sp - 2]
  if fieldX b0 = 1 ∧ fieldY b0 = 6 ∧ fieldZ b0 ≠ 6 then [hlOf s]
  else if b0 = 0x34 ∨ b0 = 0x35 ∨ b0 = 0x36 ∨ b0 = 0x22 ∨ b0 = 0x32 then [hlOf s]
  else if b0 = 0x02 then [readPair s 0]
  else if b0 = 0x12 then [readPair s 1]
  else if b0 = 0xEA then [imm16 b1 b2]
  else if b0 = 0xE0 then [0xFF#8 ++ b1]
  else if b0 = 0xE2 then [0xFF#8 ++ s.reg .c]
  else if b0 = 0x08 then [imm16 b1 b2, imm16 b1 b2 + 1]
  else if b0 = 0xC5 ∨ b0 = 0xD5 ∨ b0 = 0xE5 ∨ b0 = 0xF5 ∨ b0 = 0xCD then stack
  else if fieldX b0 = 3 ∧ fieldZ b0 = 7 then stack
  else if fieldX b0 = 3 ∧ fieldZ b0 = 4 ∧ fieldY b0 < 4 then (if taken s b0 then stack else [])
  else []

/-- The addresses the instruction with these bytes stores to; of the prefixed ones every (HL) form but BIT
stores to HL (R183 to R203). -/
def storesTo (b0 b1 b2 : Byte) (s : State) : List Word :=
  if b0 = 0xCB then (if fieldZ b1 = 6 ∧ fieldX b1 ≠ 1 then [hlOf s] else []) else directStores b0 b1 b2 s

/-! ### Which reads a store can change -/

/-- Whether two addresses are one byte of work RAM, the echo range mirroring 0xC000-0xDDFF (R68). -/
def sameWorkRam (w a : Nat) : Bool :=
  decide (0xC000 ≤ w) && decide (w < 0xFE00) && decide (0xC000 ≤ a) && decide (a < 0xFE00) &&
    (w % 0x2000 == a % 0x2000)

/-- The other addresses whose read a store to a register can change, by the side effects of R77: DIV and TAC
can count TIMA and set IF (R246, R247), LCDC can clear LY and STAT and set IF (R253), LYC changes STAT and can
set IF (R252), 0xFF50 uncovers the cartridge's first page (R65). -/
def sideEffects (w : Nat) : List Nat :=
  match w with
  | 0xFF04 => [0xFF05, 0xFF0F]
  | 0xFF07 => [0xFF05, 0xFF0F]
  | 0xFF40 => [0xFF41, 0xFF44, 0xFF0F]
  | 0xFF45 => [0xFF41, 0xFF0F]
  | _ => []

/-- Whether a store to w can change what a read of a gives in this state. -/
def canChange (s : State) (w a : Word) : Bool :=
  (w == a) || sameWorkRam w.toNat a.toNat || (sideEffects w.toNat).contains a.toNat ||
    (w == 0xFF50 && decide (a.toNat < 0x100)) ||
    (decide (s.cartridge ≠ .romOnly) && inCartridge w.toNat && inCartridge a.toNat)

/-! ### Small readings used below -/

/-- A two-digit number in packed BCD. -/
def bcd (n : Nat) : Byte := BitVec.ofNat 8 (16 * (n / 10) + n % 10)

/-- The machine's byte storage (R66 to R69): video RAM, work RAM, OAM, high RAM. -/
def isStorage (a : Nat) : Bool :=
  (decide (0x8000 ≤ a) && decide (a < 0xA000)) || (decide (0xC000 ≤ a) && decide (a < 0xE000)) ||
    (decide (0xFE00 ≤ a) && decide (a < 0xFEA0)) || (decide (0xFF80 ≤ a) && decide (a < 0xFFFF))

/-- The addresses no component answers (R70). -/
def isUnmapped (a : Nat) : Bool :=
  (decide (0xFEA0 ≤ a) && decide (a ≤ 0xFEFF)) || (decide (0xFF01 ≤ a) && decide (a ≤ 0xFF03)) ||
    (decide (0xFF08 ≤ a) && decide (a ≤ 0xFF0E)) || (decide (0xFF10 ≤ a) && decide (a ≤ 0xFF3F)) ||
    (decide (0xFF4C ≤ a) && decide (a ≤ 0xFF4F)) || a == 0xFF50 ||
    (decide (0xFF51 ≤ a) && decide (a ≤ 0xFF7F))

/-- `n` timer steps and nothing else. -/
def timerSteps : Nat → State → State
  | 0, s => s
  | n + 1, s => timerSteps n (timerStep s)

/-- `n` DMA steps and nothing else. -/
def dmaSteps : Nat → State → State
  | 0, s => s
  | n + 1, s => dmaSteps n (dmaStep s)

/-- The cycles between two increments of TIMA, in units of the divider (R244): the selected bit falls once
in this many. -/
def timaPeriod (sel : BitVec 2) : Nat :=
  match sel.toNat with
  | 0 => 1024
  | 1 => 16
  | 2 => 64
  | _ => 256

/-- The same outcome with a step's cycle counted. -/
def counted (o : Host.Outcome State Fault Refusal) : Host.Outcome State Fault Refusal :=
  match o with
  | .next t => .next { t with cycle := t.cycle + 1 }
  | .fault f => .fault f
  | .refused r => .refused r

end Sys2Proof.Rules

open Sys2Proof Sys2Proof.Machine Sys2Proof.Rules

/-! ### Reset, and one step -/

/-- R272: what reset leaves, for every choice of the OPEN parameters: the boot ROM or none, the EI delay, the
cartridge and the initial memories. -/
def Obligations.ResetValues : Prop :=
  ∀ (rom : Option (Vector Byte 256)) (delay : Bool) (cart : Cartridge) (mem : Mem),
    let s := State.resetWith rom delay cart mem
    (∀ r : Reg8, s.reg r = 0) ∧ s.sp = 0 ∧ s.pc = 0 ∧ s.ime = false ∧ s.imePending = false ∧
    s.ie = 0 ∧ s.iflag = 0 ∧ s.run = .running ∧ s.nextActive = 0 ∧ s.fault = none ∧
    s.timer.div16 = 0 ∧ s.timer.tima = 0 ∧ s.timer.tma = 0 ∧ s.timer.tac = 0 ∧
    s.lcd.lcdc = 0x80 ∧ s.lcd.stat = 0 ∧ s.lcd.scy = 0 ∧ s.lcd.scx = 0 ∧ s.lcd.ly = 0 ∧ s.lcd.lyc = 0 ∧
    s.lcd.dma = 0 ∧ s.lcd.bgp = 0 ∧ s.lcd.obp0 = 0 ∧ s.lcd.obp1 = 0 ∧ s.lcd.wy = 0 ∧ s.lcd.wx = 0 ∧
    s.lcd.power = .on ∧ s.lcd.lineOrigin = 0 ∧ s.lcd.winLine = 0 ∧ s.lcd.framesCompleted = 0 ∧
    (∀ (x : Fin Config.lcdWidth) (y : Fin Config.lcdHeight),
      (s.lcd.frame.get y).get x = 0 ∧ s.screen x y = 0) ∧
    s.dma.active = false ∧ s.dma.source = 0 ∧ s.dma.index = 0 ∧ s.cycle = 0 ∧
    s.bootRomEnabled = rom.isSome ∧ s.bootRom = rom ∧ s.eiDelay = delay ∧ s.cartridge = cart ∧ s.mem = mem

/-- The invariant holds at reset, for every choice of the parameters with memory in canonical form. -/
def Obligations.ResetMeetsInvariant : Prop :=
  ∀ (rom : Option (Vector Byte 256)) (delay : Bool) (cart : Cartridge) (mem : Mem),
    mem.wf = true → (State.resetWith rom delay cart mem).Inv

/-- A cycle with no fault recorded is the timer's step, then the LCD controller's, then the CPU's, in that order, and
the cycle counted after them (R221); `deviceStep` names the first two. A step runs the decoded instruction: where no
fault is recorded and the CPU, after the timer's and the LCD controller's step of this cycle, fetches, and the bytes at
PC decode to a well-formed instruction, the step is `exec` of that instruction on the awakened state, with the cycle
counted after it (R221, R227, R230). -/
def Obligations.StepRunsTheDecodedInstruction : Prop :=
  (∀ s : State, deviceStep s = lcdStep (timerStep s) ∧
     (s.NoFault → step s = counted (cpuStep (lcdStep (timerStep s))))) ∧
  (∀ (s : State) (i : Instr), s.NoFault → (deviceStep s).Fetches →
     decode [(deviceStep s).busRead (deviceStep s).pc, (deviceStep s).busRead ((deviceStep s).pc + 1),
       (deviceStep s).busRead ((deviceStep s).pc + 2)] = .ok i →
     i.wellFormed = true →
     step s = counted (exec i (deviceStep s).wake))

/-- R227, R242: a halted CPU with no enabled line pending, and a running CPU before its next active cycle, do nothing
in this cycle, while the timer and then the LCD controller step (R221). R218, R280: a halted CPU wakes at the first
cycle at which an enabled line is pending, whatever IME holds: with IME 0 it executes the instruction after the HALT at
that cycle, and its run state is Running again; with IME 1 it services the lowest such line i at that cycle (R229): IME
and IF bit i are cleared, PC is pushed high byte first, PC becomes 0x0040 + 8 i, and the CPU is Running and next active
5 cycles on. -/
def Obligations.IdleAndHaltedCycles : Prop :=
  (∀ s : State, s.NoFault →
     let d := lcdStep (timerStep s)
     (d.run = .halted ∧ d.ie &&& d.iflag &&& 0x1F = 0 ∨ d.run = .running ∧ d.cycle < d.nextActive) →
     step s = .next { d with cycle := d.cycle + 1 }) ∧
  (∀ s : State, s.run = .halted → s.ie &&& s.iflag &&& 0x1F ≠ 0 →
     s.idle = false ∧ s.wake = { s with run := .running, nextActive := s.cycle } ∧
     (s.ime = false → cpuStep s = exec s.wake.fetch { s with run := .running, nextActive := s.cycle }) ∧
     (s.ime = true →
       ∃ i, i < 5 ∧ (s.ie &&& s.iflag).getLsbD i = true ∧ (∀ j, j < i → (s.ie &&& s.iflag).getLsbD j = false) ∧
         let pushedPc := pushed s.pc { s with
           run := .running, nextActive := s.cycle, ime := false, imePending := false,
           iflag := s.iflag &&& ~~~(1#8 <<< i) }
         cpuStep s = .next { pushedPc with pc := BitVec.ofNat 16 (0x40 + 8 * i), nextActive := s.cycle + 5 } ∧
         pushedPc.run = .running))

/-- R14, R35, R219, R220, R233: STOP and the 11 bytes without an instruction change nothing but the fault
record (constructors `stop` and `illegal`): where the CPU comes to one, the cycle's timer and LCD steps have happened,
the cycle is counted (R221) and, of the rest, only a halted CPU's wake-up has (R234, which the spec derives). That they
answer a next state that holds the record, and that the step after it answers the fault, is the model's choice (log
entry 9, DEDUCED). A machine with a recorded fault takes no further step, and its record is never replaced, not by
another fault and not by `runUntil`. -/
def Obligations.FaultsStopTheMachine : Prop :=
  (∀ (s : State) (f : Fault), s.fault = some f →
     step s = .fault f ∧ (∀ target, s.runUntil target = s) ∧ (∀ g, (s.raiseFault g).fault = some f)) ∧
  (∀ (s : State) (b1 b2 : Byte), s.NoFault →
     exec (decode3 0x10 b1 b2) s = .next { s with fault := some (.stopUnimplemented s.pc) } ∧
     step { s with fault := some (.stopUnimplemented s.pc) } = .fault (.stopUnimplemented s.pc) ∧
     (∀ op : Byte, op ∈ [0xD3, 0xDB, 0xDD, 0xE3, 0xE4, 0xEB, 0xEC, 0xED, 0xF4, 0xFC, 0xFD] →
       decode3 op b1 b2 = .illegal op ∧
       exec (decode3 op b1 b2) s = .next { s with fault := some (.illegalOpcode s.pc op) } ∧
       step { s with fault := some (.illegalOpcode s.pc op) } = .fault (.illegalOpcode s.pc op))) ∧
  (∀ s : State, s.NoFault → (deviceStep s).Fetches →
     let d := deviceStep s
     (d.busRead d.pc = 0x10 →
       step s = .next { d.wake with fault := some (.stopUnimplemented d.pc), cycle := d.cycle + 1 }) ∧
     (illegalBytes.contains (d.busRead d.pc) = true →
       step s = .next
         { d.wake with fault := some (.illegalOpcode d.pc (d.busRead d.pc)), cycle := d.cycle + 1 }))

/-- Where no fault is recorded, every cycle ends in a next state with one more cycle counted: no state and no
program makes a step of this machine fault or be refused before a fault is recorded (R221, R222). That the cycle of a
STOP or an illegal byte, too, ends in a next state, which holds the record, and that only the step after it answers the
fault, is the model's choice (log entry 9, DEDUCED). -/
def Obligations.EveryCycleCompletes : Prop :=
  ∀ s : State, s.NoFault → ∃ t, step s = .next t ∧ t.cycle = s.cycle + 1 ∧ t.eiDelay = s.eiDelay ∧ t.bootRom = s.bootRom

/-! ### Encoding -/

/-- Words of the tables of R94 and R95, one or more of every family, written out bit by bit, decode to the
instructions they stand for. -/
def Obligations.TableWordsDecode : Prop :=
  decode3 0b01000001 0 0 = .ldBC ∧ decode3 0b00111110 0x42 0 = .ldAN8 0x42 ∧
  decode3 0b01010110 0 0 = .ldDAtHl ∧ decode3 0b00110110 0xAB 0 = .ldAtHlN8 0xAB ∧
  decode3 0b00101010 0 0 = .ldAAtHli ∧ decode3 0b00110010 0 0 = .ldAtHldA ∧
  decode3 0b11101010 0x46 0xFF = .ldAtN16A 0xFF46 ∧ decode3 0b11110000 0x44 0 = .ldhAAtN8 0x44 ∧
  decode3 0b00110001 0xFE 0xFF = .ldSpN16 0xFFFE ∧ decode3 0b00001000 0x00 0xC1 = .ldAtN16Sp 0xC100 ∧
  decode3 0b11110101 0 0 = .pushAf ∧ decode3 0b11000001 0 0 = .popBc ∧
  decode3 0b10001011 0 0 = .adcAE ∧ decode3 0b11111110 0x3C 0 = .cpAN8 0x3C ∧
  decode3 0b00110100 0 0 = .incAtHl ∧ decode3 0b00100111 0 0 = .daa ∧
  decode3 0b00111001 0 0 = .addHlSp ∧ decode3 0b11101000 0x08 0 = .addSpE8 0x08 ∧
  decode3 0b00011111 0 0 = .rra ∧ decode3 0xCB 0b00110111 0 = .swapA ∧ decode3 0xCB 0b01111111 0 = .bit7A ∧
  decode3 0xCB 0b10000110 0 = .res0AtHl ∧ decode3 0xCB 0xCB 0 = .set1E ∧
  decode3 0b00100000 0xFE 0 = .jrNzE8 0xFE ∧ decode3 0b11000011 0x50 0x01 = .jpN16 0x0150 ∧
  decode3 0b11011100 0x34 0x12 = .callCN16 0x1234 ∧ decode3 0b11011001 0 0 = .reti ∧
  decode3 0b11001111 0 0 = .rst08 ∧ decode3 0b01110110 0 0 = .halt ∧ decode3 0b11111011 0 0 = .ei ∧
  decode3 0b00010000 0 0 = .stop ∧ decode3 0b11011101 0 0 = .illegal 0xDD

/-- Decoding an encoded well-formed instruction gives it back, with every operand at every value, whatever
bytes follow it (R84, R86, R93 to R98). STOP's encoding, 0x10 0x00, is the model's choice (log entry 10, DESIGN
CHOICE). -/
def Obligations.DecodeOfEncode : Prop :=
  ∀ (i : Instr) (after : List Byte), i.wellFormed = true →
    decode (encode i ++ after) = .ok i ∧ (encode i).length = opcodeLength ((encode i).headD 0)

/-- Encoding a decoded instruction gives its bytes back, as many as the first byte says (R98), but for STOP: its
second byte is never read (R97), and that it is encoded with 0x00 there is the model's choice (log entry 10, DESIGN
CHOICE). Every first byte decodes to a well-formed instruction: no encoding is left without a meaning (R84, R96). -/
def Obligations.EncodeOfDecode : Prop :=
  ∀ b0 b1 b2 : Byte,
    (decode3 b0 b1 b2).wellFormed = true ∧ decode [b0, b1, b2] = .ok (decode3 b0 b1 b2) ∧
    encode (decode3 b0 b1 b2) =
      (if b0 = 0x10 then [0x10, 0x00] else [b0, b1, b2].take (opcodeLength b0))

/-- R84, R92: the decoder answers for the byte 0xCB the prefixed table's entry of the second byte. The constructor
`prefixCb` is the opcode table's row of the prefix byte, which R84 says is no instruction of its own: that it stands in
`Instr` with the second byte as its operand, and that its meaning is that entry's, is the model's choice (log entry 10,
DESIGN CHOICE). It answers a next state in every state. -/
def Obligations.PrefixSelectsTheSecondTable : Prop :=
  ∀ (b1 b2 : Byte) (s : State),
    decode3 0xCB b1 b2 = tableTwoInstr b1 ∧
    exec (.prefixCb b1) s = exec (tableTwoInstr b1) s ∧
    ∃ t, exec (.prefixCb b1) s = .next t

/-! ### ALU functions -/

/-- R100 to R103: `add` and `sub` with their carry or borrow, and the two 16-bit sums, one with the flags of the
low-byte addition, one with those of the high-byte addition that takes the low one's carry: value, Z, N, H, C. -/
def Obligations.AdditionFormulas : Prop :=
  (∀ (l r : Byte) (c : Bool),
     let s := aluAdd l r c
     let u := aluSub l r c
     s.value.toNat = (l.toNat + r.toNat + c.toNat) % 256 ∧ s.z = (s.value == 0) ∧ s.n = false ∧
     s.h = decide (l.toNat % 16 + r.toNat % 16 + c.toNat > 15) ∧
     s.c = decide (l.toNat + r.toNat + c.toNat > 255) ∧
     (u.value.toNat : Int) = ((l.toNat : Int) - r.toNat - c.toNat) % 256 ∧ u.z = (u.value == 0) ∧ u.n = true ∧
     u.h = decide (l.toNat % 16 < r.toNat % 16 + c.toNat) ∧ u.c = decide (l.toNat < r.toNat + c.toNat)) ∧
  (∀ l r : Word,
     let lo := l.toNat % 256 + r.toNat % 256
     let carry := if lo > 255 then 1 else 0
     (add16L l r).value.toNat = (l.toNat + r.toNat) % 65536 ∧ (add16L l r).z = false ∧ (add16L l r).n = false ∧
     (add16L l r).h = decide (l.toNat % 16 + r.toNat % 16 > 15) ∧ (add16L l r).c = decide (lo > 255) ∧
     (add16H l r).value.toNat = (l.toNat + r.toNat) % 65536 ∧ (add16H l r).z = false ∧ (add16H l r).n = false ∧
     (add16H l r).h = decide (l.toNat / 256 % 16 + r.toNat / 256 % 16 + carry > 15) ∧
     (add16H l r).c = decide (l.toNat / 256 + r.toNat / 256 + carry > 255))

/-- What the flags of R100 to R103 mean in bits: a carry into (or borrow from) a bit place is the exclusive
or of the operands' and the result's bit there, so H is that of place 4 and C that of place 8 of the exact
result; for the 16-bit pair, places 4 and 8 or 12 and 16. Subtracting undoes adding, and C with it. -/
def Obligations.CarriesAreBitwise : Prop :=
  (∀ (l r : Byte) (c : Bool),
    (aluAdd l r c).h = (l ^^^ r ^^^ (aluAdd l r c).value).getLsbD 4 ∧
    (aluAdd l r c).c = (l.setWidth 9 + r.setWidth 9 + BitVec.ofNat 9 c.toNat).getLsbD 8 ∧
    (aluSub l r c).h = (l ^^^ r ^^^ (aluSub l r c).value).getLsbD 4 ∧
    (aluSub l r c).c = (l.setWidth 9 - r.setWidth 9 - BitVec.ofNat 9 c.toNat).getLsbD 8 ∧
    (aluSub (aluAdd l r c).value r c).value = l ∧
    (aluSub (aluAdd l r c).value r c).c = (aluAdd l r c).c) ∧
  (∀ l r : Word,
    (add16L l r).h = (l ^^^ r ^^^ (l + r)).getLsbD 4 ∧ (add16L l r).c = (l ^^^ r ^^^ (l + r)).getLsbD 8 ∧
    (add16H l r).h = (l ^^^ r ^^^ (l + r)).getLsbD 12 ∧
    (add16H l r).c = (l.setWidth 17 + r.setWidth 17).getLsbD 16)

/-- The purpose of `bcdAdjust` (R104): after an addition or a subtraction of two packed two-digit decimal
numbers it leaves the packed decimal sum or difference modulo 100, with C the decimal carry or borrow. -/
def Obligations.DecimalAdjustIsDecimal : Prop :=
  ∀ x y : Nat, x < 100 → y < 100 →
    let sum := aluAdd (bcd x) (bcd y) false
    let diff := aluSub (bcd x) (bcd y) false
    (bcdAdjust sum.value false sum.h sum.c).value = bcd ((x + y) % 100) ∧
    (bcdAdjust sum.value false sum.h sum.c).c = decide (100 ≤ x + y) ∧
    (bcdAdjust diff.value true diff.h diff.c).value = bcd ((x + 100 - y) % 100) ∧
    (bcdAdjust diff.value true diff.h diff.c).c = decide (x < y)

/-- R105 to R113: the bitwise functions bit by bit with their flags, the nibble swap and the single-bit functions;
the rotates and shifts as arithmetic on the byte, in each of which N and H are 0, Z is that of the value and C is
the bit ejected. -/
def Obligations.BitwiseAndShiftFunctions : Prop :=
  ((∀ (l r : Byte) (i : Nat), i < 8 →
     (aluAnd l r).value.getLsbD i = (l.getLsbD i && r.getLsbD i) ∧
     (aluOr l r).value.getLsbD i = (l.getLsbD i || r.getLsbD i) ∧
     (aluXor l r).value.getLsbD i = (l.getLsbD i != r.getLsbD i) ∧
     (aluSwap l).value.getLsbD i = l.getLsbD ((i + 4) % 8)) ∧
   (∀ l r : Byte,
     ((aluAnd l r).z = ((aluAnd l r).value == 0) ∧ (aluAnd l r).n = false ∧ (aluAnd l r).h = true ∧
       (aluAnd l r).c = false) ∧
     ((aluOr l r).z = ((aluOr l r).value == 0) ∧ (aluOr l r).n = false ∧ (aluOr l r).h = false ∧
       (aluOr l r).c = false) ∧
     ((aluXor l r).z = ((aluXor l r).value == 0) ∧ (aluXor l r).n = false ∧ (aluXor l r).h = false ∧
       (aluXor l r).c = false) ∧
     ((aluSwap l).z = ((aluSwap l).value == 0) ∧ (aluSwap l).n = false ∧ (aluSwap l).h = false ∧
       (aluSwap l).c = false)) ∧
   (∀ (v : Byte) (b : BitVec 3) (i : Nat), i < 8 →
     (testBit v b).z = !v.getLsbD b.toNat ∧ (testBit v b).n = false ∧ (testBit v b).h = true ∧
     (testBit v b).c = false ∧
     (setBit v b).getLsbD i = (v.getLsbD i || decide (i = b.toNat)) ∧
     (resBit v b).getLsbD i = (v.getLsbD i && decide (i ≠ b.toNat)))) ∧
  (∀ (v : Byte) (c : Bool),
     (rotate .left v).value.toNat = 2 * v.toNat % 256 + v.toNat / 128 ∧
     (rotate .right v).value.toNat = v.toNat / 2 + 128 * (v.toNat % 2) ∧
     (rotateThrough .left v c).value.toNat = 2 * v.toNat % 256 + c.toNat ∧
     (rotateThrough .right v c).value.toNat = v.toNat / 2 + 128 * c.toNat ∧
     (shiftLeft v).value.toNat = 2 * v.toNat % 256 ∧
     (shiftRightA v).value.toNat = v.toNat / 2 + 128 * (v.toNat / 128) ∧
     (shiftRightL v).value.toNat = v.toNat / 2 ∧
     (∀ r ∈ [rotate .left v, rotateThrough .left v c, shiftLeft v],
       r.z = (r.value == 0) ∧ r.n = false ∧ r.h = false ∧ r.c = decide (128 ≤ v.toNat)) ∧
     (∀ r ∈ [rotate .right v, rotateThrough .right v c, shiftRightA v, shiftRightL v],
       r.z = (r.value == 0) ∧ r.n = false ∧ r.h = false ∧ r.c = decide (v.toNat % 2 = 1)))

/-- R16, R115: packing a result of 0 to 16 bits with its flags and unpacking it gives it back, and the packed
number holds the value from bit 8 on, Z, N, H, C in bits 7, 6, 5, 4 and 0 below, as R16 says. R17, R140: the new F of a selector: each flag forced to 0 or 1,
taken from the result, kept or complemented, and the low four bits 0. -/
def Obligations.PackedResultsAndSelectors : Prop :=
  (∀ (w : Nat) (r : AluResult w), w ≤ 16 →
     AluResult.unpack w r.pack = r ∧ r.pack % 16 = 0 ∧ r.pack / 256 = r.value.toNat ∧
     r.pack = 256 * r.value.toNat + 128 * r.z.toNat + 64 * r.n.toNat + 32 * r.h.toNat + 16 * r.c.toNat) ∧
  (∀ (w : Nat) (sel : Selector) (r : AluResult w) (f : Byte),
     (∀ src : FlagSource, ∀ alu now : Bool, src.pick alu now =
       (decide (src = .one) || (decide (src = .alu) && alu) || (decide (src = .keep) && now) ||
         (decide (src = .flip) && !now))) ∧
     (flags sel r f).getLsbD 7 = sel.z.pick r.z (f.getLsbD 7) ∧
     (flags sel r f).getLsbD 6 = sel.n.pick r.n (f.getLsbD 6) ∧
     (flags sel r f).getLsbD 5 = sel.h.pick r.h (f.getLsbD 5) ∧
     (flags sel r f).getLsbD 4 = sel.c.pick r.c (f.getLsbD 4) ∧
     (flags sel r f) &&& 0x0F = 0)

/-! ### Loads and stores. Each gives the whole next state, so it is the completion of the constructors named
in it: F, and every other field not named, is as it was. -/

/-- R116, R118, R119: `LD r8,r8'`, `LD r8,(HL)`, `LD (HL),r8`, `01 yyy zzz` without 0x76 (constructors `ldBB` to
`ldAA` of rows 4x to 7x of the direct table, the (HL) forms among them). R117, R120: `LD r8,n8` and `LD (HL),n8`,
`00 yyy 110` (constructors `ldBN8`, `ldCN8`, `ldDN8`, `ldEN8`, `ldHN8`, `ldLN8`, `ldAtHlN8`, `ldAN8`). -/
def Obligations.ByteLoads : Prop :=
  (∀ (y z : BitVec 3) (b1 b2 : Byte) (s : State), ¬(y = 6 ∧ z = 6) →
     exec (decode3 (opcode 1 y z) b1 b2) s =
       .next (finish 1 (if y = 6 ∨ z = 6 then 2 else 1) (putOperand y (operand s z) s))) ∧
  (∀ (y : BitVec 3) (b1 b2 : Byte) (s : State),
     exec (decode3 (opcode 0 y 6) b1 b2) s = .next (finish 2 (if y = 6 then 3 else 2) (putOperand y b1 s)))

/-- R121 to R128: A loaded from and stored to (BC), (DE), (HL+), (HL-) (constructors `ldAAtBc`, `ldAAtDe`, `ldAAtHli`,
`ldAAtHld`, `ldAtBcA`, `ldAtDeA`, `ldAtHliA`, `ldAtHldA`): the access is at HL before HL moves, and HL wraps. -/
def Obligations.AccumulatorIndirect : Prop :=
  (∀ (b1 b2 : Byte) (s : State),
     exec (decode3 0x0A b1 b2) s = .next (finish 1 2 (s.setReg .a (s.busRead (readPair s 0)))) ∧
     exec (decode3 0x1A b1 b2) s = .next (finish 1 2 (s.setReg .a (s.busRead (readPair s 1)))) ∧
     exec (decode3 0x2A b1 b2) s =
       .next (finish 1 2 (putPair 2 (hlOf s + 1) (s.setReg .a (s.busRead (hlOf s))))) ∧
     exec (decode3 0x3A b1 b2) s =
       .next (finish 1 2 (putPair 2 (hlOf s - 1) (s.setReg .a (s.busRead (hlOf s)))))) ∧
  (∀ (b1 b2 : Byte) (s : State),
     exec (decode3 0x02 b1 b2) s = .next (finish 1 2 (s.busWrite (readPair s 0) (s.reg .a))) ∧
     exec (decode3 0x12 b1 b2) s = .next (finish 1 2 (s.busWrite (readPair s 1) (s.reg .a))) ∧
     exec (decode3 0x22 b1 b2) s =
       .next (finish 1 2 (putPair 2 (hlOf s + 1) (s.busWrite (hlOf s) (s.reg .a)))) ∧
     exec (decode3 0x32 b1 b2) s =
       .next (finish 1 2 (putPair 2 (hlOf s - 1) (s.busWrite (hlOf s) (s.reg .a)))))

/-- R129 to R134: the accumulator loads and stores at `n16`, at `0xFF00 + n8` and at `0xFF00 + C`
(constructors `ldAAtN16`, `ldAtN16A`, `ldhAAtN8`, `ldhAtN8A`, `ldhAAtC`, `ldhAtCA`). -/
def Obligations.LoadAndStoreAccumulatorDirect : Prop :=
  ∀ (b1 b2 : Byte) (s : State),
    exec (decode3 0xFA b1 b2) s = .next (finish 3 4 (s.setReg .a (s.busRead (imm16 b1 b2)))) ∧
    exec (decode3 0xEA b1 b2) s = .next (finish 3 4 (s.busWrite (imm16 b1 b2) (s.reg .a))) ∧
    exec (decode3 0xF0 b1 b2) s = .next (finish 2 3 (s.setReg .a (s.busRead (0xFF#8 ++ b1)))) ∧
    exec (decode3 0xE0 b1 b2) s = .next (finish 2 3 (s.busWrite (0xFF#8 ++ b1) (s.reg .a))) ∧
    exec (decode3 0xF2 b1 b2) s = .next (finish 1 2 (s.setReg .a (s.busRead (0xFF#8 ++ s.reg .c)))) ∧
    exec (decode3 0xE2 b1 b2) s = .next (finish 1 2 (s.busWrite (0xFF#8 ++ s.reg .c) (s.reg .a)))

/-- R135 to R137: `LD r16,n16`, `00 pp0 001`, `LD (n16),SP` with the low byte stored first, `LD SP,HL` (constructors
`ldBcN16`, `ldDeN16`, `ldHlN16`, `ldSpN16`, `ldAtN16Sp`, `ldSpHl`). R138, R139: PUSH, `11 pp0 101`, and POP,
`11 pp0 001`, of BC, DE, HL and AF, POP AF keeping F's low four bits 0 (constructors `pushBc`, `pushDe`, `pushHl`,
`pushAf`, `popBc`, `popDe`, `popHl`, `popAf`). -/
def Obligations.SixteenBitLoadsAndStack : Prop :=
  (∀ (p : BitVec 2) (b1 b2 : Byte) (s : State),
     exec (decode3 (opcodeP 0 p 0 1) b1 b2) s = .next (finish 3 3 (put16 p (imm16 b1 b2) s)) ∧
     exec (decode3 0x08 b1 b2) s =
       .next (finish 3 5
         ((s.busWrite (imm16 b1 b2) (s.sp.extractLsb' 0 8)).busWrite (imm16 b1 b2 + 1) (s.sp.extractLsb' 8 8))) ∧
     exec (decode3 0xF9 b1 b2) s = .next (finish 1 2 { s with sp := hlOf s })) ∧
  (∀ (p : BitVec 2) (b1 b2 : Byte) (s : State),
     exec (decode3 (opcodeP 3 p 0 5) b1 b2) s = .next (finish 1 4 (pushed (readPair s p) s)) ∧
     exec (decode3 (opcodeP 3 p 0 1) b1 b2) s =
       .next (finish 1 3 (putPair p (popped s) { s with sp := s.sp + 2 })) ∧
     ∀ t, exec (decode3 0xF1 b1 b2) s = .next t → t.regs.f = s.busRead s.sp &&& 0xF0)

/-! ### 8-bit arithmetic and logic -/

/-- R141, R142, R144, R145, R147, R148, R150, R151, R153, R154: ADD, ADC, SUB, SBC and CP of A with a register
or the byte at HL, `10 yyy zzz` (constructors `addAB` to `addAA`, `adcAB` to `adcAA`, `subAB` to `subAA`, `sbcAB`
to `sbcAA`, `cpAB` to `cpAA`, the (HL) forms among them). -/
def Obligations.ArithmeticOfAWithOperand : Prop :=
  ∀ (y z : BitVec 3) (b1 b2 : Byte) (s : State), y < 4 ∨ y = 7 →
    exec (decode3 (opcode 2 y z) b1 b2) s =
      .next (finish 1 (if z = 6 then 2 else 1) (aluInto y (operand s z) s))

/-- R156, R157, R159, R160, R162, R163: AND, XOR and OR of A with a register or the byte at HL, `10 yyy zzz`
(constructors `andAB` to `andAA`, `xorAB` to `xorAA`, `orAB` to `orAA`, the (HL) forms among them). -/
def Obligations.LogicOfAWithOperand : Prop :=
  ∀ (y z : BitVec 3) (b1 b2 : Byte) (s : State), 4 ≤ y → y < 7 →
    exec (decode3 (opcode 2 y z) b1 b2) s =
      .next (finish 1 (if z = 6 then 2 else 1) (aluInto y (operand s z) s))

/-- R143, R146, R149, R152, R155, R158, R161, R164: the ALU operations with an immediate byte, `11 yyy 110`
(constructors `addAN8`, `adcAN8`, `subAN8`, `sbcAN8`, `andAN8`, `xorAN8`, `orAN8`, `cpAN8`). -/
def Obligations.AluWithImmediate : Prop :=
  ∀ (y : BitVec 3) (b1 b2 : Byte) (s : State),
    exec (decode3 (opcode 3 y 6) b1 b2) s = .next (finish 2 2 (aluInto y b1 s))

/-- R165 to R168: INC and DEC of a register or the byte at HL, `00 yyy 100` and `00 yyy 101`, with C kept
(constructors `incB` to `incA`, `incAtHl`, `decB` to `decA`, `decAtHl`). -/
def Obligations.IncrementAndDecrement : Prop :=
  ∀ (y : BitVec 3) (b1 b2 : Byte) (s : State),
    let up := aluAdd (operand s y) 1 false
    let down := aluSub (operand s y) 1 false
    exec (decode3 (opcode 0 y 4) b1 b2) s =
      .next (finish 1 (if y = 6 then 3 else 1) (putFlags ⟨.alu, .zero, .alu, .keep⟩ up (putOperand y up.value s))) ∧
    exec (decode3 (opcode 0 y 5) b1 b2) s =
      .next (finish 1 (if y = 6 then 3 else 1)
        (putFlags ⟨.alu, .one, .alu, .keep⟩ down (putOperand y down.value s)))

/-- R169 to R172, with R104 in full: DAA, CPL, SCF and CCF (constructors `daa`, `cpl`, `scf`, `ccf`). -/
def Obligations.AccumulatorAdjustments : Prop :=
  ∀ (b1 b2 : Byte) (s : State),
    let a := s.reg .a
    let f := s.reg .f
    let n := f.getLsbD 6
    let fixL := f.getLsbD 5 || (!n && decide (a.toNat % 16 > 9))
    let fixH := f.getLsbD 4 || (!n && decide (a.toNat > 0x99))
    let fix : Byte := (if fixH then 0x60 else 0) + (if fixL then 0x06 else 0)
    let adjusted := if n then a - fix else a + fix
    exec (decode3 0x27 b1 b2) s =
      .next (finish 1 1 ((s.setReg .a adjusted).setReg .f
        ((if adjusted = 0 then 0x80 else 0) ||| (f &&& 0x40) ||| (if fixH then 0x10 else 0)))) ∧
    exec (decode3 0x2F b1 b2) s =
      .next (finish 1 1 ((s.setReg .a (0xFF - a)).setReg .f ((f &&& 0x90) ||| 0x60))) ∧
    exec (decode3 0x37 b1 b2) s = .next (finish 1 1 (s.setReg .f ((f &&& 0x80) ||| 0x10))) ∧
    exec (decode3 0x3F b1 b2) s = .next (finish 1 1 (s.setReg .f ((f &&& 0x90) ^^^ 0x10)))

/-! ### 16-bit arithmetic -/

/-- R173 to R175: `ADD HL,r16`, `INC r16` and `DEC r16` over BC, DE, HL, SP (constructors `addHlBc`, `addHlDe`,
`addHlHl`, `addHlSp`, `incBc`, `incDe`, `incHl`, `incSp`, `decBc`, `decDe`, `decHl`, `decSp`). R176, R177: `ADD SP,e8`
and `LD HL,SP+e8`, the offset sign-extended and H and C those of the unsigned low-byte addition (constructors
`addSpE8`, `ldHlSpE8`). -/
def Obligations.SixteenBitArithmetic : Prop :=
  (∀ (p : BitVec 2) (b1 b2 : Byte) (s : State),
     let sum := add16H (hlOf s) (read16 s p)
     exec (decode3 (opcodeP 0 p 1 1) b1 b2) s =
       .next (finish 1 2 (putFlags ⟨.keep, .zero, .alu, .alu⟩ sum (putPair 2 (hlOf s + read16 s p) s))) ∧
     exec (decode3 (opcodeP 0 p 0 3) b1 b2) s = .next (finish 1 2 (put16 p (read16 s p + 1) s)) ∧
     exec (decode3 (opcodeP 0 p 1 3) b1 b2) s = .next (finish 1 2 (put16 p (read16 s p - 1) s))) ∧
  (∀ (b1 b2 : Byte) (s : State),
     let sum := s.sp + b1.signExtend 16
     let f : Byte := (if s.sp.toNat % 16 + b1.toNat % 16 > 15 then 0x20 else 0) |||
       (if s.sp.toNat % 256 + b1.toNat > 255 then 0x10 else 0)
     exec (decode3 0xE8 b1 b2) s = .next (finish 2 4 ({ s with sp := sum }.setReg .f f)) ∧
     exec (decode3 0xF8 b1 b2) s = .next (finish 2 3 ((putPair 2 sum s).setReg .f f)))

/-! ### Rotates, shifts, single bits -/

/-- R178 to R181: RLCA, RRCA, RLA, RRA, with Z always 0 (constructors `rlca`, `rrca`, `rla`, `rra`). R182 to R189: RLC,
RRC, RL and RR of a register or the byte at HL, 0xCB then `00 yyy zzz`, y < 4 (constructors `rlcB` to `rlcA`, `rrcB` to
`rrcA`, `rlB` to `rlA`, `rrB` to `rrA`, the (HL) forms among them). -/
def Obligations.Rotates : Prop :=
  (∀ (y : BitVec 3) (b1 b2 : Byte) (s : State), y < 4 →
     let r := rotFunction y (s.reg .a) ((s.reg .f).getLsbD 4)
     exec (decode3 (opcode 0 y 7) b1 b2) s =
       .next (finish 1 1 ((s.setReg .a r.value).setReg .f (if r.c then 0x10 else 0)))) ∧
  (∀ (y z : BitVec 3) (b2 : Byte) (s : State), y < 4 →
     let r := rotFunction y (operand s z) ((s.reg .f).getLsbD 4)
     exec (decode3 0xCB (opcode 0 y z) b2) s =
       .next (finish 2 (if z = 6 then 4 else 2)
         (putFlags ⟨.alu, .zero, .zero, .alu⟩ r (putOperand z r.value s))))

/-- R190 to R197: SLA, SRA, SWAP and SRL of a register or the byte at HL, 0xCB then `00 yyy zzz`, y of 4 to 7;
SWAP clears C (constructors `slaB` to `slaA`, `sraB` to `sraA`, `swapB` to `swapA`, `srlB` to `srlA`, the (HL)
forms among them). -/
def Obligations.PrefixedShiftsAndSwap : Prop :=
  ∀ (y z : BitVec 3) (b2 : Byte) (s : State), 4 ≤ y →
    let r := rotFunction y (operand s z) ((s.reg .f).getLsbD 4)
    exec (decode3 0xCB (opcode 0 y z) b2) s =
      .next (finish 2 (if z = 6 then 4 else 2)
        (putFlags (if y = 6 then ⟨.alu, .zero, .zero, .zero⟩ else ⟨.alu, .zero, .zero, .alu⟩) r
          (putOperand z r.value s)))

/-- R198, R199: BIT, 0xCB then `01 yyy zzz`: Z is the inverted bit, N 0, H 1, C kept, and the operand is not written
(constructors `bit0B` to `bit7A`, the (HL) forms among them). R200 to R203: RES and SET, 0xCB then `10 yyy zzz` and
`11 yyy zzz`, no flag written and the byte written back also where the bit does not change (constructors `res0B` to
`res7A`, `set0B` to `set7A`, the (HL) forms among them). -/
def Obligations.SingleBits : Prop :=
  (∀ (y z : BitVec 3) (b2 : Byte) (s : State),
     exec (decode3 0xCB (opcode 1 y z) b2) s =
       .next (finish 2 (if z = 6 then 3 else 2)
         (s.setReg .f ((if (operand s z).getLsbD y.toNat then 0 else 0x80) ||| 0x20 ||| (s.reg .f &&& 0x10))))) ∧
  (∀ (y z : BitVec 3) (b2 : Byte) (s : State),
     exec (decode3 0xCB (opcode 2 y z) b2) s =
       .next (finish 2 (if z = 6 then 4 else 2) (putOperand z (operand s z &&& ~~~(1#8 <<< y.toNat)) s)) ∧
     exec (decode3 0xCB (opcode 3 y z) b2) s =
       .next (finish 2 (if z = 6 then 4 else 2) (putOperand z (operand s z ||| (1#8 <<< y.toNat)) s)))

/-! ### Jumps, calls, returns, restarts -/

/-- R204 to R208: JP n16, JP cc,n16, JP HL, JR e8, JR cc,e8, taken and not taken, the relative target that of
the address after the instruction, wrapping (constructors `jpN16`, `jpNzN16`, `jpZN16`, `jpNcN16`, `jpCN16`,
`jpHl`, `jrE8`, `jrNzE8`, `jrZE8`, `jrNcE8`, `jrCE8`). -/
def Obligations.Jumps : Prop :=
  ∀ (cc : BitVec 2) (b1 b2 : Byte) (s : State),
    let near := s.pc + 2 + b1.signExtend 16
    exec (decode3 0xC3 b1 b2) s = .next (finishAt (imm16 b1 b2) 4 s) ∧
    exec (decode3 (opcodeIf cc 2) b1 b2) s =
      .next (if condition s cc then finishAt (imm16 b1 b2) 4 s else finish 3 3 s) ∧
    exec (decode3 0xE9 b1 b2) s = .next (finishAt (hlOf s) 1 s) ∧
    exec (decode3 0x18 b1 b2) s = .next (finishAt near 3 s) ∧
    exec (decode3 (opcodeJrIf cc) b1 b2) s = .next (if condition s cc then finishAt near 3 s else finish 2 2 s)

/-- R209, R210, R214: CALL, CALL cc and RST push the address after the instruction and go to the target; a CALL not
taken leaves SP and memory alone (constructors `callN16`, `callNzN16`, `callZN16`, `callNcN16`, `callCN16`, `rst00`,
`rst08`, `rst10`, `rst18`, `rst20`, `rst28`, `rst30`, `rst38`). R211 to R213, R236: RET, RET cc and RETI pop PC; RETI sets
IME at once, RET does not, and nothing else is restored (constructors `ret`, `retNz`, `retZ`, `retNc`, `retC`, `reti`). -/
def Obligations.CallsAndReturns : Prop :=
  (∀ (cc : BitVec 2) (y : BitVec 3) (b1 b2 : Byte) (s : State),
     exec (decode3 0xCD b1 b2) s = .next (finishAt (imm16 b1 b2) 6 (pushed (s.pc + 3) s)) ∧
     exec (decode3 (opcodeIf cc 4) b1 b2) s =
       .next (if condition s cc then finishAt (imm16 b1 b2) 6 (pushed (s.pc + 3) s) else finish 3 3 s) ∧
     exec (decode3 (opcode 3 y 7) b1 b2) s =
       .next (finishAt (BitVec.ofNat 16 (8 * y.toNat)) 4 (pushed (s.pc + 1) s))) ∧
  (∀ (cc : BitVec 2) (b1 b2 : Byte) (s : State),
     exec (decode3 0xC9 b1 b2) s = .next (finishAt (popped s) 4 { s with sp := s.sp + 2 }) ∧
     exec (decode3 (opcodeIf cc 0) b1 b2) s =
       .next (if condition s cc then finishAt (popped s) 5 { s with sp := s.sp + 2 } else finish 1 2 s) ∧
     exec (decode3 0xD9 b1 b2) s =
       .next (finishAt (popped s) 4 { s with sp := s.sp + 2, ime := true, imePending := false }))

/-! ### System instructions -/

/-- R215 to R218, the instruction's own part: NOP, DI, EI and HALT (constructors `nop`, `di`, `ei`, `halt`).
EI's own end takes no pending enable over (R217, R230); HALT's end and NOP's do. That DI leaves IME 0 also where an
enable was pending, against the letter of R230's pseudocode and as R216 and R217 say, is log entry 6 (DEDUCED). -/
def Obligations.SystemInstructions : Prop :=
  ∀ (b1 b2 : Byte) (s : State),
    exec (decode3 0x00 b1 b2) s = .next (finish 1 1 s) ∧
    exec (decode3 0xF3 b1 b2) s = .next (finish 1 1 { s with ime := false, imePending := false }) ∧
    exec (decode3 0xFB b1 b2) s =
      .next (if s.eiDelay then { s with imePending := true, pc := s.pc + 1, nextActive := s.cycle + 1 }
        else { s with ime := true, pc := s.pc + 1, nextActive := s.cycle + 1 }) ∧
    exec (decode3 0x76 b1 b2) s = .next (finish 1 1 { s with run := .halted })

/-- R217, R216, R230: the delay of EI. With `EI_DELAY` 0 IME is 1 after EI. With 1 it is not changed by EI, and
after the next instruction it is 1, except that a DI after EI leaves it 0, a second EI only passes the delay
on, and a fault changes nothing (log entry 6 on DI). -/
def Obligations.EiDelay : Prop :=
  ∀ (b1 b2 : Byte) (s : State),
    ∃ t, exec (decode3 0xFB b1 b2) s = .next t ∧
      (s.eiDelay = false → t.ime = true) ∧
      (s.eiDelay = true → t.ime = s.ime ∧ t.imePending = true ∧
        ∀ (i : Instr) (u : State), exec i t = .next u →
          (i = .di → u.ime = false ∧ u.imePending = false) ∧
          (i = .ei → u.ime = s.ime ∧ u.imePending = true) ∧
          (i = .stop ∨ (∃ op, i = .illegal op) → u.ime = s.ime ∧ u.imePending = true) ∧
          (i ≠ .di → i ≠ .ei → i ≠ .stop → (∀ op, i ≠ .illegal op) → u.ime = true ∧ u.imePending = false))

/-! ### What an instruction leaves alone -/

/-- The frame of the registers and flags over every instruction word: no register but those the instruction
names is changed (R116 to R214), no flag the table under R28 marks `-`, and SP only by the instructions R26
lists. -/
def Obligations.RegisterFrame : Prop :=
  ∀ (b0 b1 b2 : Byte) (s t : State), exec (decode3 b0 b1 b2) s = .next t →
    (∀ r : Reg8, r ∉ registersWritten b0 b1 → t.reg r = s.reg r) ∧
    (t.regs.f ^^^ s.regs.f) &&& 0xF0 &&& ~~~flagsWritten b0 b1 = 0 ∧
    (b0 ∉ spWriters → t.sp = s.sp)

/-- The frame of the CPU's control state over every instruction word: IME only by EI, DI, RETI and the delayed
enable (R32, R34), the run state only by HALT (R33), the fault record only by STOP and the illegal bytes (R35),
`cycle` and the parameters by none (R55). -/
def Obligations.ControlStateFrame : Prop :=
  ∀ (b0 b1 b2 : Byte) (s t : State), exec (decode3 b0 b1 b2) s = .next t →
    (b0 ∉ [0xF3, 0xFB, 0xD9] → (s.eiDelay && s.imePending) = false → t.ime = s.ime ∧ t.imePending = s.imePending) ∧
    (s.ime = false → t.ime = true → b0 = 0xFB ∨ b0 = 0xD9 ∨ (s.eiDelay && s.imePending) = true) ∧
    (b0 ≠ 0x76 → t.run = s.run) ∧
    (b0 ≠ 0x10 → illegalBytes.contains b0 = false → t.fault = s.fault) ∧
    t.cycle = s.cycle ∧ t.eiDelay = s.eiDelay ∧ t.bootRom = s.bootRom

/-- The frame of everything outside the CPU over every instruction word: an instruction that stores nothing
changes no device register, no interrupt register and no byte of memory; of one that stores, all that happens
outside the CPU is its one or two bus writes, in order, at the addresses computed from the state before it. -/
def Obligations.OnlyStoresChangeDevices : Prop :=
  ∀ (b0 b1 b2 : Byte) (s t : State), exec (decode3 b0 b1 b2) s = .next t →
    ∃ values : List Byte, values.length = (storesTo b0 b1 b2 s).length ∧
      let w := ((storesTo b0 b1 b2 s).zip values).foldl (fun u av => u.busWrite av.1 av.2) s
      t.ie = w.ie ∧ t.iflag = w.iflag ∧ t.timer = w.timer ∧ t.lcd = w.lcd ∧ t.dma = w.dma ∧
      t.bootRomEnabled = w.bootRomEnabled ∧ t.cartridge = w.cartridge ∧ t.joypad = w.joypad ∧ t.mem = w.mem

/-- The frame of memory over every instruction word: every address reads as before but those a store of the
instruction reaches, by itself, by the echo mirror or by the side effects of R77; for an instruction that
stores nothing every address reads as before. Memory is canonical (the invariant). -/
def Obligations.MemoryFrame : Prop :=
  ∀ (b0 b1 b2 : Byte) (s t : State) (a : Word), s.mem.wf = true → exec (decode3 b0 b1 b2) s = .next t →
    (∀ w ∈ storesTo b0 b1 b2 s, canChange s w a = false) → t.busRead a = s.busRead a

/-- R231, R84, R98: every instruction word whose instruction does not set PC moves PC past its bytes, wrapping, and
so does a conditional jump, call or return whose condition fails. R232, R85, R94, R95: every instruction word
consumes the base cycles of its table entry, and the extra ones exactly when it is a conditional instruction that
is taken; the CPU next acts that many cycles later. -/
def Obligations.PcAndCyclesOfEveryInstruction : Prop :=
  (∀ (b0 b1 b2 : Byte) (s : State), b0 ≠ 0x10 → illegalBytes.contains b0 = false →
     (b0 ∉ pcWriters ∨ taken s b0 = false) →
     ∃ t, exec (decode3 b0 b1 b2) s = .next t ∧ t.pc = s.pc + BitVec.ofNat 16 (opcodeLength b0)) ∧
  (∀ (b0 b1 b2 : Byte) (s : State), b0 ≠ 0x10 → illegalBytes.contains b0 = false →
     ∃ t, exec (decode3 b0 b1 b2) s = .next t ∧
       t.nextActive = s.cycle +
         (if taken s b0 then (opcodeCost b0 b1).1 + (opcodeCost b0 b1).2 else (opcodeCost b0 b1).1))

/-! ### The bus -/

/-- R60, R63: read is first-responder-wins over the attached components, 0xFF where none answers; and since no
two components own one address, attachment order decides no read. -/
def Obligations.AttachmentOrderDecidesNoRead : Prop :=
  ∀ (cs : List Component) (s : State) (a : Word), cs.Perm busComponents →
    busReadFrom cs s a = s.busRead a ∧
    (∀ c ∈ cs, ∀ v, Component.read s a c = some v → s.busRead a = v) ∧
    ((∀ c ∈ cs, Component.read s a c = none) → s.busRead a = 0xFF)

/-- R61: a store disturbs no read but those it reaches, by itself, by the echo mirror or by the side effects of R77.
R66 to R69, R73: a byte stored in video RAM, work RAM, OAM or high RAM reads back, whatever mode the display is in,
in work RAM also through the echo range, and the store changes nothing but that byte. Memory is canonical (the
invariant). -/
def Obligations.StoresToMemory : Prop :=
  (∀ (s : State) (w a : Word) (v : Byte), s.mem.wf = true → canChange s w a = false →
     (s.busWrite w v).busRead a = s.busRead a) ∧
  (∀ (s : State) (a : Word) (v : Byte), s.mem.wf = true → isStorage a.toNat = true →
     (s.busWrite a v).busRead a = v ∧ s.busWrite a v = { s with mem := Mem.write s.mem a.toNat v } ∧
     (0xC000 ≤ a.toNat → a.toNat < 0xDE00 →
       (s.busWrite a v).busRead (a + 0x2000) = v ∧ s.busWrite (a + 0x2000) v = s.busWrite a v))

/-- R70, R52, R44: the addresses no component owns read 0xFF, and a write to them changes nothing; a write to 0xFF50
only disables the boot ROM, and a write to LY changes nothing. R65, R52, R64: while the overlay is enabled and a
boot ROM is given, 0x0000-0x00FF read its bytes; after a write to 0xFF50 of any value they read what the cartridge
answers; a write there goes to the cartridge in either case, whether the overlay is enabled or not. -/
def Obligations.UnmappedAddressesAndBootOverlay : Prop :=
  (∀ (s : State) (a : Word) (v : Byte),
     (isUnmapped a.toNat = true → s.busRead a = 0xFF ∧ (a ≠ 0xFF50 → s.busWrite a v = s)) ∧
     s.busWrite 0xFF50 v = { s with bootRomEnabled := false } ∧ s.busWrite 0xFF44 v = s) ∧
  (∀ (s : State) (rom : Vector Byte 256) (n : Fin 256) (v : Byte), s.bootRom = some rom → s.bootRomEnabled = true →
     s.busRead (BitVec.ofNat 16 n.val) = rom.get n ∧
     (s.busWrite 0xFF50 v).busRead (BitVec.ofNat 16 n.val) = s.cartridgeByte (BitVec.ofNat 16 n.val)) ∧
  (∀ (s : State) (n : Fin 256) (v w : Byte),
     s.busWrite (BitVec.ofNat 16 n.val) w = s.cartridgeWrite (BitVec.ofNat 16 n.val) w ∧
     (s.busWrite 0xFF50 v).busWrite (BitVec.ofNat 16 n.val) w =
       (s.busWrite 0xFF50 v).cartridgeWrite (BitVec.ofNat 16 n.val) w)

/-- R30, R31, R37 to R39, R40 to R51, R248, R255: a read of an interrupt, timer or LCD register answers its field (DIV
the divider's high byte), and after a write of v it answers v, but for DIV (0), STAT (its low three bits kept) and LY
(not written). What those writes do to the whole state: each stores its byte and changes nothing else, but that a
write to LYC runs the comparison as well (R45, R252) and one to DMA starts a copy (R268). The writes of DIV and TAC
and of LCDC are in TimerEdges and DisplayOffAndOn. R226, R271: a read of 0xFF00 answers what the joypad component
answers, a write there and a key released reach that component alone, and a key pressed does too and raises line 4
exactly where the component raises it; the component's history, and its two answers as free values of it, are the
model's choice (log entry 4, DESIGN CHOICE), so this holds for every value of them. -/
def Obligations.RegistersReadBack : Prop :=
  (∀ s : State,
    s.busRead 0xFFFF = s.ie ∧ s.busRead 0xFF0F = s.iflag ∧
    s.busRead 0xFF04 = s.timer.div16.extractLsb' 8 8 ∧ s.busRead 0xFF05 = s.timer.tima ∧
    s.busRead 0xFF06 = s.timer.tma ∧ s.busRead 0xFF07 = s.timer.tac ∧
    s.busRead 0xFF40 = s.lcd.lcdc ∧ s.busRead 0xFF41 = s.lcd.stat ∧ s.busRead 0xFF42 = s.lcd.scy ∧
    s.busRead 0xFF43 = s.lcd.scx ∧ s.busRead 0xFF44 = s.lcd.ly ∧ s.busRead 0xFF45 = s.lcd.lyc ∧
    s.busRead 0xFF46 = s.lcd.dma ∧ s.busRead 0xFF47 = s.lcd.bgp ∧ s.busRead 0xFF48 = s.lcd.obp0 ∧
    s.busRead 0xFF49 = s.lcd.obp1 ∧ s.busRead 0xFF4A = s.lcd.wy ∧ s.busRead 0xFF4B = s.lcd.wx) ∧
  (∀ (s : State) (v : Byte),
    (s.busWrite 0xFF04 v).busRead 0xFF04 = 0 ∧
    (s.busWrite 0xFF05 v).busRead 0xFF05 = v ∧ (s.busWrite 0xFF06 v).busRead 0xFF06 = v ∧
    (s.busWrite 0xFF07 v).busRead 0xFF07 = v ∧ (s.busWrite 0xFF0F v).busRead 0xFF0F = v ∧
    (s.busWrite 0xFFFF v).busRead 0xFFFF = v ∧ (s.busWrite 0xFF40 v).busRead 0xFF40 = v ∧
    (s.busWrite 0xFF41 v).busRead 0xFF41 = (v &&& 0xF8) ||| (s.lcd.stat &&& 0x07) ∧
    (s.busWrite 0xFF44 v).busRead 0xFF44 = s.lcd.ly ∧
    (∀ a : Word, a ∈ [0xFF42, 0xFF43, 0xFF45, 0xFF46, 0xFF47, 0xFF48, 0xFF49, 0xFF4A, 0xFF4B] →
      (s.busWrite a v).busRead a = v)) ∧
  (∀ (s : State) (v : Byte),
    s.busWrite 0xFFFF v = { s with ie := v } ∧
    s.busWrite 0xFF0F v = { s with iflag := v } ∧
    s.busWrite 0xFF05 v = { s with timer := { s.timer with tima := v } } ∧
    s.busWrite 0xFF06 v = { s with timer := { s.timer with tma := v } } ∧
    s.busWrite 0xFF41 v = { s with lcd := { s.lcd with stat := (v &&& 0xF8) ||| (s.lcd.stat &&& 0x07) } } ∧
    s.busWrite 0xFF42 v = { s with lcd := { s.lcd with scy := v } } ∧
    s.busWrite 0xFF43 v = { s with lcd := { s.lcd with scx := v } } ∧
    s.busWrite 0xFF44 v = s ∧
    s.busWrite 0xFF45 v = State.lycCompare { s with lcd := { s.lcd with lyc := v } } ∧
    s.busWrite 0xFF46 v = { s with lcd := { s.lcd with dma := v }, dma := ⟨true, v ++ 0#8, 0⟩ } ∧
    s.busWrite 0xFF47 v = { s with lcd := { s.lcd with bgp := v } } ∧
    s.busWrite 0xFF48 v = { s with lcd := { s.lcd with obp0 := v } } ∧
    s.busWrite 0xFF49 v = { s with lcd := { s.lcd with obp1 := v } } ∧
    s.busWrite 0xFF4A v = { s with lcd := { s.lcd with wy := v } } ∧
    s.busWrite 0xFF4B v = { s with lcd := { s.lcd with wx := v } }) ∧
  (∀ (s : State) (v : Byte) (k : Config.Key),
    let pressed := s.joypad ++ [Config.JoyEvent.press k]
    s.busRead 0xFF00 = Config.joypadRead s.joypad ∧
    s.busWrite 0xFF00 v = { s with joypad := s.joypad ++ [.write v] } ∧
    s.keyReleased k = { s with joypad := s.joypad ++ [.release k] } ∧
    s.keyPressed k =
      { s with joypad := pressed, iflag := if Config.joypadRaises pressed then s.iflag ||| 0x10 else s.iflag })

/-! ### Interrupts and HALT -/

/-- R225, R228, R229, R235: where the CPU acts, IME is 1 and enabled lines are pending, the lowest of them, i, is
serviced before anything is fetched: IME and IF bit i are cleared, PC is pushed high byte first, PC becomes
0x0040 + 8 i and 5 cycles are charged; the opcode at PC, legal or not, plays no part. Where the CPU acts and IME
is 0 or no enabled line is pending, its step is the instruction at PC. -/
def Obligations.CpuActsByTheInterruptCheck : Prop :=
  (∀ (s : State) (i : Nat), s.ime = true → s.idle = false → i < 5 →
     (s.ie &&& s.iflag).getLsbD i = true → (∀ j, j < i → (s.ie &&& s.iflag).getLsbD j = false) →
     let w := s.wake
     let pushedPc := pushed s.pc { w with ime := false, imePending := false, iflag := s.iflag &&& ~~~(1#8 <<< i) }
     cpuStep s =
       .next { pushedPc with pc := BitVec.ofNat 16 (0x40 + 8 * i), nextActive := s.cycle + 5 }) ∧
  (∀ s : State, s.idle = false → (s.ime = false ∨ s.ie &&& s.iflag &&& 0x1F = 0) →
     cpuStep s = exec s.wake.fetch s.wake)

/-- A whole-machine rule from R224, R229 and R31: a request in IF is lost in a cycle only by the CPU: by the
service of that very line, by a store of the serviced PC into IF, or by an instruction that stores to IF. The timer,
the LCD controller and every other instruction only add requests. -/
def Obligations.PendingBitsAreNotLost : Prop :=
  ∀ (s t : State) (i : Nat), i < 8 → step s = .next t → s.iflag.getLsbD i = true → t.iflag.getLsbD i = false →
    let d := deviceStep s
    d.idle = false ∧
    (if d.wake.interrupted then i = lowestLine d.pending ∨ d.sp - 1 = 0xFF0F ∨ d.sp - 2 = 0xFF0F
    else 0xFF0F ∈ storesTo (d.busRead d.pc) (d.busRead (d.pc + 1)) (d.busRead (d.pc + 2)) d.wake)

/-- R277 c: in a dead halt no later cycle wakes the CPU: it stays Halted with its registers, SP, PC, IME and IE
as they were, while the cycles are counted. -/
def Obligations.DeadHaltNeverWakes : Prop :=
  ∀ (n : Nat) (s : State), s.NoFault → s.deadHalt = true →
    let t := runCycles n s
    t.deadHalt = true ∧ t.NoFault ∧ t.regs = s.regs ∧ t.sp = s.sp ∧ t.pc = s.pc ∧ t.ime = s.ime ∧ t.ie = s.ie ∧
    t.cycle = s.cycle + n

/-- R221: `runUntil` below the simulated cycle records `ClockNotMonotonic` and changes nothing else. Otherwise it is
the machine's steps one after another: to the present cycle it does nothing, and to one cycle further it takes one more
step, unless a fault is recorded by then. So it ends at the target, or one past the cycle of a fault, of which the
state before that step had none recorded. That a fault stands in the state after its cycle's step is the model's choice
(log entry 9, DEDUCED). -/
def Obligations.RunUntilReachesItsTarget : Prop :=
  ∀ (s : State) (target : Nat), s.NoFault →
    (target < s.cycle →
      s.runUntil target = { s with fault := some (.clockNotMonotonic s.cycle target) }) ∧
    s.runUntil s.cycle = s ∧
    (s.cycle ≤ target →
      (s.runUntil target).cycle ≤ target ∧
      ((s.runUntil target).NoFault →
        (s.runUntil target).cycle = target ∧ step (s.runUntil target) = .next (s.runUntil (target + 1))) ∧
      (¬(s.runUntil target).NoFault →
        s.runUntil (target + 1) = s.runUntil target ∧
        ∃ u : State, u.NoFault ∧ s.cycle ≤ u.cycle ∧ u = s.runUntil u.cycle ∧
          step u = .next (s.runUntil target) ∧ (s.runUntil target).cycle = u.cycle + 1))

/-! ### Timer -/

/-- R243, R244, R245: the timer's step. The divider advances by 4, TMA and TAC stay, and TIMA counts exactly when the
enabled signal of the selected divider bit falls: 9, 3, 5 or 7 for TAC[1:0] of 0, 1, 2, 3. On 0xFF it is reloaded
from TMA and line 2 is requested in the same step. Nothing else changes. R246, R247, R281: any write to DIV clears the
divider and counts TIMA once exactly when the timer is enabled and its selected divider bit is 1; a write to TAC
counts once exactly when the signal under the old TAC is 1 and under the new one 0. -/
def Obligations.TimerEdges : Prop :=
  (∀ s : State,
     let bit := fun d : Word => s.timer.tac.getLsbD 2 &&
       (match (s.timer.tac &&& 3).toNat with
         | 0 => d.getLsbD 9
         | 1 => d.getLsbD 3
         | 2 => d.getLsbD 5
         | _ => d.getLsbD 7)
     let d := s.timer.div16 + 4
     timerStep s =
       (if bit s.timer.div16 = true ∧ bit d = false then
         (if s.timer.tima = 0xFF then
           { s with timer := { s.timer with div16 := d, tima := s.timer.tma }, iflag := s.iflag ||| 4 }
         else { s with timer := { s.timer with div16 := d, tima := s.timer.tima + 1 } })
       else { s with timer := { s.timer with div16 := d } })) ∧
  (∀ (s : State) (v : Byte),
     let bit := fun tac : Byte => tac.getLsbD 2 &&
       s.timer.div16.getLsbD (match (tac &&& 3).toNat with
         | 0 => 9
         | 1 => 3
         | 2 => 5
         | _ => 7)
     let cleared : State := { s with timer := { s.timer with div16 := 0 } }
     let set : State := { s with timer := { s.timer with tac := v } }
     s.busWrite 0xFF04 v = (if bit s.timer.tac then cleared.incrementTima else cleared) ∧
     s.busWrite 0xFF07 v = (if bit s.timer.tac = true ∧ bit v = false then set.incrementTima else set))

/-- R244: over n cycles of an enabled timer TIMA counts one for every 256, 4, 16 or 64 cycles (1024, 16, 64 or
256 of the divider), as long as it does not overflow, and line 2 is not requested; a disabled timer counts
nothing. -/
def Obligations.TimaFrequency : Prop :=
  ∀ (n : Nat) (s : State),
    let period := timaPeriod (s.timer.tac.extractLsb' 0 2)
    let count := if s.timer.tac.getLsbD 2 then (s.timer.div16.toNat + 4 * n) / period - s.timer.div16.toNat / period
      else 0
    s.timer.tima.toNat + count ≤ 255 →
    timerSteps n s =
      { s with timer :=
        { s.timer with div16 := s.timer.div16 + BitVec.ofNat 16 (4 * n), tima := BitVec.ofNat 8 (s.timer.tima.toNat + count) } }

/-! ### LCD controller -/

/-- R251, R252: entering a mode sets STAT[1:0] and requests line 1 exactly where STAT enables it, bits 3, 4, 5
for modes 0, 1, 2, never for mode 3; the comparison sets STAT bit 2 and requests line 1 exactly where LY is LYC
and STAT bit 6 is set. -/
def Obligations.ModeEntryAndComparison : Prop :=
  ∀ (s : State) (m : BitVec 2),
    s.enterMode m =
      { s with
        lcd := { s.lcd with stat := (s.lcd.stat &&& 0xFC) ||| m.setWidth 8 }
        iflag := if m ≠ 3 ∧ s.lcd.stat.getLsbD (3 + m.toNat) = true then s.iflag ||| 2 else s.iflag } ∧
    s.lycCompare =
      { s with
        lcd := { s.lcd with stat := (s.lcd.stat &&& 0xFB) ||| (if s.lcd.ly = s.lcd.lyc then 4 else 0) }
        iflag := if s.lcd.ly = s.lcd.lyc ∧ s.lcd.stat.getLsbD 6 = true then s.iflag ||| 2 else s.iflag }

/-- R253, R254: clearing LCDC bit 7 turns the display off at once: LY and the mode become 0 and the comparison
runs, the images and the frame count stay and no VBlank is requested; setting it starts line 0 at the next
cycle; leaving it only stores the byte. That the rows of `frame` stored so far and `winLine` stay as they are when the
display is turned off is the model's choice (log entry 19, DESIGN CHOICE). -/
def Obligations.DisplayOffAndOn : Prop :=
  ∀ (s : State) (v : Byte),
    (s.lcd.lcdc.getLsbD 7 = true → v.getLsbD 7 = false →
      s.busWrite 0xFF40 v =
        State.lycCompare { s with lcd := { s.lcd with lcdc := v, power := .off, ly := 0, stat := s.lcd.stat &&& 0xFC } } ∧
      (s.busWrite 0xFF40 v).lcd.latestImage = s.lcd.latestImage ∧
      (s.busWrite 0xFF40 v).lcd.framesCompleted = s.lcd.framesCompleted ∧
      (s.busWrite 0xFF40 v).iflag.getLsbD 0 = s.iflag.getLsbD 0) ∧
    (s.lcd.lcdc.getLsbD 7 = false → v.getLsbD 7 = true →
      s.busWrite 0xFF40 v = { s with lcd := { s.lcd with lcdc := v, power := .on, lineOrigin := s.cycle + 1 } }) ∧
    (s.lcd.lcdc.getLsbD 7 = v.getLsbD 7 → s.busWrite 0xFF40 v = { s with lcd := { s.lcd with lcdc := v } })

/-- R249, R250: what the state machine does at each place of a frame, by line and cycle in the line: at cycle 0
LY and the comparison, and mode 2 on a visible line, VBlank with the frame finished and mode 1 on line 144, the
comparison alone on 145 to 153; on a visible line the line rendered and mode 3 at cycle 20, mode 0 at cycle 63;
at every other cycle nothing. The controller's step is the DMA step and after it, with the display on, that of the
state machine; off, nothing more. Two points are the model's choice: the equations leave `lineOrigin` as it was, at the
start of every later frame too (log entry 17, DESIGN CHOICE, against R53's other reading), and the place is taken by
subtraction on natural numbers, 0 where `lineOrigin` lies in the future (log entry 14, DESIGN CHOICE). -/
def Obligations.FrameTiming : Prop :=
  ∀ s : State,
    let p := (s.cycle - s.lcd.lineOrigin) % 17556
    let ln := p / 114
    let c := p % 114
    let onLine := State.lycCompare { s with lcd := { s.lcd with ly := BitVec.ofNat 8 ln } }
    (c = 0 → ln = 0 →
      s.ppuStep = State.enterMode 2 { onLine with lcd := { onLine.lcd with winLine := 0 } }) ∧
    (c = 0 → 0 < ln → ln < 144 → s.ppuStep = onLine.enterMode 2) ∧
    (c = 0 → ln = 144 →
      s.ppuStep = State.enterMode 1 { onLine with
        lcd := { onLine.lcd with latestImage := s.lcd.frame, framesCompleted := s.lcd.framesCompleted + 1 }
        iflag := onLine.iflag ||| 1 }) ∧
    (c = 0 → 144 < ln → s.ppuStep = onLine) ∧
    (ln < 144 → c = 20 → s.ppuStep = (s.renderLine ln).enterMode 3) ∧
    (ln < 144 → c = 63 → s.ppuStep = s.enterMode 0) ∧
    (c ≠ 0 → (c ≠ 20 ∧ c ≠ 63 ∨ 144 ≤ ln) → s.ppuStep = s) ∧
    (s.lcd.power = .off → lcdStep s = dmaStep s) ∧
    (s.lcd.power = .on → lcdStep s = (dmaStep s).ppuStep)

/-- R270, R250, R253: the latest image and the frame count change in no cycle but one at whose start the display
is on and enters line 144, and then to the finished frame, in one piece. The place in the frame is the model's, by
subtraction on natural numbers (log entry 14, DESIGN CHOICE). -/
def Obligations.ImageChangesOnlyAtVBlank : Prop :=
  ∀ s t : State, step s = .next t →
    (t.lcd.latestImage = s.lcd.latestImage ∧ t.lcd.framesCompleted = s.lcd.framesCompleted ∨
      s.lcd.power = .on ∧ (s.cycle - s.lcd.lineOrigin) % 17556 = 144 * 114 ∧
      t.lcd.latestImage = s.lcd.frame ∧ t.lcd.framesCompleted = s.lcd.framesCompleted + 1)

/-! ### Rendering -/

/-- R257 to R259: the colours of the background and the window from video RAM, tile by tile, with wraparound,
the tile-data source and the map areas that LCDC selects (R40), the palette (R47) and the opacity of the raw colour; the window is joined from
column WX - 7 on where it is visible. -/
def Obligations.BackgroundAndWindowPixels : Prop :=
  ∀ (l : Lcd) (m : Mem) (ly x : Nat), x < 160 →
    let tileAt := fun (base px py : Nat) =>
      let i := Mem.read m (base + 32 * (py / 8) + px / 8)
      let start : Int := if l.lcdc.getLsbD 4 then 0x8000 + 16 * (i.toNat : Int) else 0x9000 + 16 * i.toInt
      let row := (start + 2 * (py % 8 : Nat)).toNat
      2 * ((Mem.read m (row + 1)).getLsbD (7 - px % 8)).toNat + ((Mem.read m row).getLsbD (7 - px % 8)).toNat
    let shade := fun c : Nat => (l.bgp.toNat / 4 ^ c) % 4
    let bg := tileAt (if l.lcdc.getLsbD 3 then 0x9C00 else 0x9800)
      ((x + l.scx.toNat) % 256) ((ly + l.scy.toNat) % 256)
    let win := tileAt (if l.lcdc.getLsbD 6 then 0x9C00 else 0x9800) (x + 7 - l.wx.toNat) l.winLine
    let visible := l.lcdc.getLsbD 5 = true ∧ l.wy.toNat ≤ ly ∧ 7 ≤ l.wx.toNat ∧ l.wx.toNat ≤ 166
    (visible → l.wx.toNat ≤ x + 7 →
      linePixel l m ly x = ⟨BitVec.ofNat 2 (shade win), win != 0⟩) ∧
    (¬(visible ∧ l.wx.toNat ≤ x + 7) → l.lcdc.getLsbD 0 = true →
      linePixel l m ly x = ⟨BitVec.ofNat 2 (shade bg), bg != 0⟩) ∧
    (¬(visible ∧ l.wx.toNat ≤ x + 7) → l.lcdc.getLsbD 0 = false → linePixel l m ly x = ⟨0, false⟩)

/-- R261: the sprites of a line are the first ten of the table, in table order, whose rows cover it; they are
drawn in order of X, and equal X in table order. -/
def Obligations.SpriteSelectionAndOrder : Prop :=
  ∀ (l : Lcd) (m : Mem) (ly : Nat),
    let h : Int := if l.lcdc.getLsbD 2 then 16 else 8
    let covering := ((List.range 40).map (oamEntry m)).filter
      (fun o => decide (0 ≤ (ly : Int) - (o.y.toNat - 16) ∧ (ly : Int) - (o.y.toNat - 16) < h))
    selectSprites l m ly = covering.take 10 ∧
    (selectSprites l m ly).length ≤ 10 ∧
    (sortByX (selectSprites l m ly)).Perm (selectSprites l m ly) ∧
    (sortByX (selectSprites l m ly)).Pairwise (fun o p => o.x.toNat ≤ p.x.toNat) ∧
    (∀ x : Byte, (sortByX (selectSprites l m ly)).filter (fun o => o.x == x) =
      (selectSprites l m ly).filter (fun o => o.x == x))

/-- R256, R262, R263: a rendered pixel. Of the sprites that are opaque at the column, in priority order, a
foreground one is shown over everything, else an opaque background or window pixel, else a background-priority
one, else the line's own shade; `renderLine` stores such a pixel at every column of the row and advances the
window's row counter exactly where the window is drawn. -/
def Obligations.RenderedPixels : Prop :=
  ∀ (s : State) (ly : Nat) (x : Fin Config.lcdWidth), ly < 144 →
    let l := s.lcd
    let sprites := if l.lcdc.getLsbD 1 then sortByX (selectSprites l s.mem ly) else []
    let opaqueAt := fun (behind : Bool) => sprites.find?
      (fun o => (o.attr.getLsbD 7 == behind) && (spritePixel l s.mem ly x.val o).solid)
    let line := linePixel l s.mem ly x.val
    let shown := match opaqueAt false, line.solid, opaqueAt true with
      | some o, _, _ => (spritePixel l s.mem ly x.val o).shade
      | none, true, _ => line.shade
      | none, false, some o => (spritePixel l s.mem ly x.val o).shade
      | none, false, none => line.shade
    (∀ h : ly < Config.lcdHeight, ((s.renderLine ly).lcd.frame.get ⟨ly, h⟩).get x = shown) ∧
    (∀ j : Fin Config.lcdHeight, j.val ≠ ly → (s.renderLine ly).lcd.frame.get j = s.lcd.frame.get j) ∧
    (s.renderLine ly).lcd.winLine = (if windowVisible l ly then l.winLine + 1 else l.winLine)

/-- R260, R262: one sprite's pixel: its row with the vertical flip, its tile with the even tile number of a
tall sprite, its bit with the horizontal flip, its palette, colour 0 transparent, and no pixel outside its eight
columns. -/
def Obligations.SpritePixels : Prop :=
  ∀ (l : Lcd) (m : Mem) (ly x : Nat) (o : Sprite), Sprite.covers (spriteHeight l.lcdc) ly o = true →
    let h := if l.lcdc.getLsbD 2 then 16 else 8
    let r0 := ly + 16 - o.y.toNat
    let r := if o.attr.getLsbD 6 then h - 1 - r0 else r0
    let t := if l.lcdc.getLsbD 2 then 2 * (o.tile.toNat / 2) else o.tile.toNat
    let k := x + 8 - o.x.toNat
    let bit := if o.attr.getLsbD 5 then k else 7 - k
    let row := 0x8000 + 16 * t + 2 * r
    let c := 2 * ((Mem.read m (row + 1)).getLsbD bit).toNat + ((Mem.read m row).getLsbD bit).toNat
    let palette := if o.attr.getLsbD 4 then l.obp1 else l.obp0
    r < h ∧
    (o.x.toNat ≤ x + 8 → x + 8 < o.x.toNat + 8 →
      spritePixel l m ly x o = ⟨BitVec.ofNat 2 ((palette.toNat / 4 ^ c) % 4), c != 0⟩) ∧
    (x + 8 < o.x.toNat ∨ o.x.toNat ≤ x → spritePixel l m ly x o = ⟨0, false⟩)

/-- R257: the controller reads video RAM and OAM directly and nothing else: two memories that agree there
render every visible line alike, the window's row counter being in the range the invariant gives it. -/
def Obligations.RenderingReadsVideoMemoryOnly : Prop :=
  ∀ (l : Lcd) (m m' : Mem) (ly : Nat), l.winLine ≤ 144 →
    (∀ a, 0x8000 ≤ a → a < 0xA000 → Mem.read m a = Mem.read m' a) →
    (∀ a, 0xFE00 ≤ a → a < 0xFEA0 → Mem.read m a = Mem.read m' a) →
    renderRow l m ly = renderRow l m' ly

/-- R264, R265: the bits of `extractWrapped`, `extractZeroExtended` and `shift`, and the laws the source states:
the wrapped extraction at 0 and at the length gives the vector back, and so does shifting by 0; a shift there
and back loses bits. -/
def Obligations.BitVectorLaws : Prop :=
  (∀ (len : Nat) (v : Plane len) (s : Int) (n i : Nat), i < n →
    (extractWrapped v s n).getLsbD i = v.getLsbD ((s + i) % len).toNat ∧
    (extractZeroExtended v s n).getLsbD i =
      (decide (0 ≤ s + i) && decide (s + i < len) && v.getLsbD (s + i).toNat)) ∧
  (∀ (len : Nat) (v : Plane len) (d : Int) (i : Nat), i < len →
    (shiftPlane v d).getLsbD i = (decide (0 ≤ i - d) && decide (i - d < len) && v.getLsbD (i - d).toNat)) ∧
  (∀ (len : Nat) (v : Plane len), 0 < len →
    extractWrapped v 0 len = v ∧ extractWrapped v len len = v ∧
    extractZeroExtended (shiftPlane v 0) 0 len = v ∧
    extractZeroExtended (shiftPlane v (-(len : Int))) 0 len = 0) ∧
  (∃ v : Plane 32, shiftPlane (shiftPlane v 1) (-1) ≠ v)

/-- R266, R267: the plane representation of a line gives the same pixels as the rules of section 9: the
background planes, the window planes joined at WX - 7, and the composite of the three lines. -/
def Obligations.PlanesGiveTheSamePixels : Prop :=
  ∀ (l : Lcd) (m : Mem) (ly x : Nat) (line bg fg : PixelLine 160), x < 160 →
    (bgLinePlanes l m ly).pixel x = bgPixel l m ly x ∧
    (7 ≤ l.wx.toNat → l.wx.toNat ≤ 166 →
      ((bgLinePlanes l m ly).join (windowLinePlanes l m l.winLine) (l.wx.toNat - 7)).pixel x =
        (if x < l.wx.toNat - 7 then bgPixel l m ly x else windowPixel l m l.winLine (x - (l.wx.toNat - 7)))) ∧
    ((compositePlanes line bg fg).pixel x).shade = composite (line.pixel x) (bg.pixel x) (fg.pixel x)

/-! ### OAM DMA -/

/-- R268, R269: a write of v to the DMA register starts a copy from page v, also while one runs, and in 160 DMA
steps byte k of the page, as the bus reads it when the copy starts, is at OAM byte k; no other address reads
otherwise, and the copy has ended. Page 0xFE copies OAM onto itself. -/
def Obligations.DmaCopiesThePage : Prop :=
  ∀ (s : State) (v : Byte), s.mem.wf = true →
    let armed := s.busWrite 0xFF46 v
    let done := dmaSteps 160 armed
    armed = { s with lcd := { s.lcd with dma := v }, dma := ⟨true, v ++ 0#8, 0⟩ } ∧
    (∀ k, k < 160 → done.busRead (0xFE00 + BitVec.ofNat 16 k) = armed.busRead ((v ++ 0#8) + BitVec.ofNat 16 k)) ∧
    (∀ a : Word, (a.toNat < 0xFE00 ∨ 0xFEA0 ≤ a.toNat) → done.busRead a = armed.busRead a) ∧
    done.dma.active = false ∧ done.dma.index = 160 ∧ dmaStep done = done

/-! ### Invariants of every step -/

/-- Every step keeps the invariant, from every state that has it, not only from those a run reaches: memory
stays canonical, F's low four bits stay 0 (R22), no enable is pending without `EI_DELAY` (R34), the DMA engine
stays in range (R54), the display is on exactly when LCDC bit 7 is (R40), LY, STAT's mode and its comparison bit
are those of the cycle's place in its frame (R41, R44, R249, R250, R252), and the CPU next acts within five
cycles (R232). That `lineOrigin` never exceeds the cycle, so that the place needs no negative number, is the model's
part of it (log entry 14, DESIGN CHOICE). -/
def Obligations.EveryStepKeepsTheInvariant : Prop :=
  ∀ s t : State, s.Inv → step s = .next t → t.Inv
end

