-- ==== Sys2Proof/Laws/Memory.lean ====
section
/-! SUPPORT. Reading after writing one byte of memory, and that a write keeps the canonical form. -/

namespace Sys2Proof.Machine

@[simp] theorem Mem.read_nil (a : Nat) : Mem.read [] a = Mem.unlisted := rfl

/-- A canonical memory above an address is canonical above every lower one. -/
theorem Mem.wfFrom_mono {lo lo' : Nat} {m : Mem} (h : Mem.wfFrom lo m = true) (hle : lo' ≤ lo) :
    Mem.wfFrom lo' m = true := by
  cases m with
  | nil => rfl
  | cons kv m =>
    obtain ⟨k, v⟩ := kv
    simp only [Mem.wfFrom, Bool.and_eq_true, decide_eq_true_eq] at h ⊢
    exact ⟨⟨by omega, h.1.2⟩, h.2⟩

/-- An address below every listed one reads as unlisted. -/
theorem Mem.read_below {lo a : Nat} {m : Mem} (h : Mem.wfFrom lo m = true) (ha : a < lo) :
    Mem.read m a = Mem.unlisted := by
  cases m with
  | nil => rfl
  | cons kv m =>
    obtain ⟨k, v⟩ := kv
    simp only [Mem.wfFrom, Bool.and_eq_true, decide_eq_true_eq] at h
    simp only [Mem.read]
    rw [if_pos (by omega)]

/-- Reading through a pair put in front. -/
theorem Mem.read_cons (a b : Nat) (v : Byte) {m : Mem} (h : Mem.wfFrom (a + 1) m = true) :
    Mem.read (Mem.cons a v m) b = if b = a then v else Mem.read m b := by
  unfold Mem.cons
  by_cases hv : v = Mem.unlisted
  · rw [if_pos hv]
    by_cases hb : b = a
    · rw [if_pos hb, hv, Mem.read_below h (by omega)]
    · rw [if_neg hb]
  · rw [if_neg hv]
    simp only [Mem.read]
    by_cases hlt : b < a
    · rw [if_pos hlt, if_neg (by omega), Mem.read_below h (by omega)]
    · rw [if_neg hlt]

/-- A pair put in front of a canonical memory above it. -/
theorem Mem.cons_wf {lo a : Nat} (v : Byte) {m : Mem} (h : Mem.wfFrom (a + 1) m = true) (ha : lo ≤ a) :
    Mem.wfFrom lo (Mem.cons a v m) = true := by
  unfold Mem.cons
  by_cases hv : v = Mem.unlisted
  · rw [if_pos hv]
    exact Mem.wfFrom_mono h (by omega)
  · rw [if_neg hv]
    simp [Mem.wfFrom, ha, hv, h]

/-- A write keeps the canonical form. -/
theorem Mem.write_wfFrom {m : Mem} {lo : Nat} (h : Mem.wfFrom lo m = true) (a : Nat) (v : Byte) (ha : lo ≤ a) :
    Mem.wfFrom lo (Mem.write m a v) = true := by
  induction m generalizing lo with
  | nil => exact Mem.cons_wf v rfl ha
  | cons kv m ih =>
    obtain ⟨k, w⟩ := kv
    have h' := h
    simp only [Mem.wfFrom, Bool.and_eq_true, decide_eq_true_eq] at h
    simp only [Mem.write]
    by_cases hlt : a < k
    · rw [if_pos hlt]
      refine Mem.cons_wf v ?_ ha
      simp only [Mem.wfFrom, Bool.and_eq_true, decide_eq_true_eq]
      exact ⟨⟨by omega, h.1.2⟩, h.2⟩
    · rw [if_neg hlt]
      by_cases heq : a = k
      · rw [if_pos heq]
        exact Mem.cons_wf v (heq ▸ h.2) ha
      · rw [if_neg heq]
        simp only [Mem.wfFrom, Bool.and_eq_true, decide_eq_true_eq]
        exact ⟨h.1, ih h.2 (by omega)⟩

/-- Every memory operation keeps the canonical form: a write does. -/
theorem Mem.write_wf {m : Mem} (h : m.wf = true) (a : Nat) (v : Byte) : (Mem.write m a v).wf = true :=
  Mem.write_wfFrom h a v (Nat.zero_le a)

/-- What a read gives after a write, in a memory canonical above `lo`. -/
theorem Mem.read_writeFrom {m : Mem} {lo : Nat} (h : Mem.wfFrom lo m = true) (a b : Nat) (v : Byte) :
    Mem.read (Mem.write m a v) b = if b = a then v else Mem.read m b := by
  induction m generalizing lo with
  | nil => exact Mem.read_cons a b v rfl
  | cons kv m ih =>
    obtain ⟨k, w⟩ := kv
    have h' := h
    simp only [Mem.wfFrom, Bool.and_eq_true, decide_eq_true_eq] at h
    simp only [Mem.write]
    by_cases hlt : a < k
    · rw [if_pos hlt]
      refine Mem.read_cons a b v ?_
      simp only [Mem.wfFrom, Bool.and_eq_true, decide_eq_true_eq]
      exact ⟨⟨by omega, h.1.2⟩, h.2⟩
    · rw [if_neg hlt]
      by_cases heq : a = k
      · rw [if_pos heq, Mem.read_cons a b v (heq ▸ h.2)]
        subst heq
        by_cases hb : b = a
        · rw [if_pos hb, if_pos hb]
        · rw [if_neg hb, if_neg hb]
          simp only [Mem.read]
          by_cases hba : b < a
          · rw [if_pos hba, Mem.read_below h.2 (by omega)]
          · rw [if_neg hba, if_neg hb]
      · rw [if_neg heq]
        simp only [Mem.read]
        by_cases hbk : b < k
        · rw [if_pos hbk, if_neg (by omega), if_pos hbk]
        · rw [if_neg hbk, if_neg hbk]
          by_cases hbk' : b = k
          · rw [if_pos hbk', if_neg (by omega), if_pos hbk']
          · rw [if_neg hbk', if_neg hbk', ih h.2]

/-- The byte written is the byte read, and every other address reads as before. -/
theorem Mem.read_write {m : Mem} (h : m.wf = true) (a b : Nat) (v : Byte) :
    Mem.read (Mem.write m a v) b = if b = a then v else Mem.read m b :=
  Mem.read_writeFrom h a b v

theorem Mem.read_write_same {m : Mem} (h : m.wf = true) (a : Nat) (v : Byte) :
    Mem.read (Mem.write m a v) a = v := by
  rw [Mem.read_write h, if_pos rfl]

theorem Mem.read_write_other {m : Mem} (h : m.wf = true) {a b : Nat} (v : Byte) (hb : b ≠ a) :
    Mem.read (Mem.write m a v) b = Mem.read m b := by
  rw [Mem.read_write h, if_neg hb]

end Sys2Proof.Machine
end

