-- ==== Sys2Proof/Laws/State.lean ====
section
/-! SUPPORT. What each named update of the state does to each field: one lemma per field per update, so that
no later proof unfolds a record update. -/

namespace Sys2Proof.Machine

@[simp] theorem State.setReg_regs (r : Reg8) (v : Byte) (s : State) : (s.setReg r v).regs = s.regs.set r v := rfl
@[simp] theorem State.setReg_sp (r : Reg8) (v : Byte) (s : State) : (s.setReg r v).sp = s.sp := rfl
@[simp] theorem State.setReg_pc (r : Reg8) (v : Byte) (s : State) : (s.setReg r v).pc = s.pc := rfl
@[simp] theorem State.setReg_ie (r : Reg8) (v : Byte) (s : State) : (s.setReg r v).ie = s.ie := rfl
@[simp] theorem State.setReg_iflag (r : Reg8) (v : Byte) (s : State) : (s.setReg r v).iflag = s.iflag := rfl
@[simp] theorem State.setReg_ime (r : Reg8) (v : Byte) (s : State) : (s.setReg r v).ime = s.ime := rfl
@[simp] theorem State.setReg_imePending (r : Reg8) (v : Byte) (s : State) : (s.setReg r v).imePending = s.imePending := rfl
@[simp] theorem State.setReg_run (r : Reg8) (v : Byte) (s : State) : (s.setReg r v).run = s.run := rfl
@[simp] theorem State.setReg_nextActive (r : Reg8) (v : Byte) (s : State) : (s.setReg r v).nextActive = s.nextActive := rfl
@[simp] theorem State.setReg_fault (r : Reg8) (v : Byte) (s : State) : (s.setReg r v).fault = s.fault := rfl
@[simp] theorem State.setReg_timer (r : Reg8) (v : Byte) (s : State) : (s.setReg r v).timer = s.timer := rfl
@[simp] theorem State.setReg_lcd (r : Reg8) (v : Byte) (s : State) : (s.setReg r v).lcd = s.lcd := rfl
@[simp] theorem State.setReg_dma (r : Reg8) (v : Byte) (s : State) : (s.setReg r v).dma = s.dma := rfl
@[simp] theorem State.setReg_bootRomEnabled (r : Reg8) (v : Byte) (s : State) : (s.setReg r v).bootRomEnabled = s.bootRomEnabled := rfl
@[simp] theorem State.setReg_cartridge (r : Reg8) (v : Byte) (s : State) : (s.setReg r v).cartridge = s.cartridge := rfl
@[simp] theorem State.setReg_joypad (r : Reg8) (v : Byte) (s : State) : (s.setReg r v).joypad = s.joypad := rfl
@[simp] theorem State.setReg_mem (r : Reg8) (v : Byte) (s : State) : (s.setReg r v).mem = s.mem := rfl
@[simp] theorem State.setReg_cycle (r : Reg8) (v : Byte) (s : State) : (s.setReg r v).cycle = s.cycle := rfl
@[simp] theorem State.setReg_eiDelay (r : Reg8) (v : Byte) (s : State) : (s.setReg r v).eiDelay = s.eiDelay := rfl
@[simp] theorem State.setReg_bootRom (r : Reg8) (v : Byte) (s : State) : (s.setReg r v).bootRom = s.bootRom := rfl

@[simp] theorem State.setPair_regs (hi lo : Reg8) (v : Word) (s : State) : (s.setPair hi lo v).regs = (s.regs.set hi (hi8 v)).set lo (lo8 v) := rfl
@[simp] theorem State.setPair_sp (hi lo : Reg8) (v : Word) (s : State) : (s.setPair hi lo v).sp = s.sp := rfl
@[simp] theorem State.setPair_pc (hi lo : Reg8) (v : Word) (s : State) : (s.setPair hi lo v).pc = s.pc := rfl
@[simp] theorem State.setPair_ie (hi lo : Reg8) (v : Word) (s : State) : (s.setPair hi lo v).ie = s.ie := rfl
@[simp] theorem State.setPair_iflag (hi lo : Reg8) (v : Word) (s : State) : (s.setPair hi lo v).iflag = s.iflag := rfl
@[simp] theorem State.setPair_ime (hi lo : Reg8) (v : Word) (s : State) : (s.setPair hi lo v).ime = s.ime := rfl
@[simp] theorem State.setPair_imePending (hi lo : Reg8) (v : Word) (s : State) : (s.setPair hi lo v).imePending = s.imePending := rfl
@[simp] theorem State.setPair_run (hi lo : Reg8) (v : Word) (s : State) : (s.setPair hi lo v).run = s.run := rfl
@[simp] theorem State.setPair_nextActive (hi lo : Reg8) (v : Word) (s : State) : (s.setPair hi lo v).nextActive = s.nextActive := rfl
@[simp] theorem State.setPair_fault (hi lo : Reg8) (v : Word) (s : State) : (s.setPair hi lo v).fault = s.fault := rfl
@[simp] theorem State.setPair_timer (hi lo : Reg8) (v : Word) (s : State) : (s.setPair hi lo v).timer = s.timer := rfl
@[simp] theorem State.setPair_lcd (hi lo : Reg8) (v : Word) (s : State) : (s.setPair hi lo v).lcd = s.lcd := rfl
@[simp] theorem State.setPair_dma (hi lo : Reg8) (v : Word) (s : State) : (s.setPair hi lo v).dma = s.dma := rfl
@[simp] theorem State.setPair_bootRomEnabled (hi lo : Reg8) (v : Word) (s : State) : (s.setPair hi lo v).bootRomEnabled = s.bootRomEnabled := rfl
@[simp] theorem State.setPair_cartridge (hi lo : Reg8) (v : Word) (s : State) : (s.setPair hi lo v).cartridge = s.cartridge := rfl
@[simp] theorem State.setPair_joypad (hi lo : Reg8) (v : Word) (s : State) : (s.setPair hi lo v).joypad = s.joypad := rfl
@[simp] theorem State.setPair_mem (hi lo : Reg8) (v : Word) (s : State) : (s.setPair hi lo v).mem = s.mem := rfl
@[simp] theorem State.setPair_cycle (hi lo : Reg8) (v : Word) (s : State) : (s.setPair hi lo v).cycle = s.cycle := rfl
@[simp] theorem State.setPair_eiDelay (hi lo : Reg8) (v : Word) (s : State) : (s.setPair hi lo v).eiDelay = s.eiDelay := rfl
@[simp] theorem State.setPair_bootRom (hi lo : Reg8) (v : Word) (s : State) : (s.setPair hi lo v).bootRom = s.bootRom := rfl

@[simp] theorem State.setHl_regs (v : Word) (s : State) : (s.setHl v).regs = (s.regs.set .h (hi8 v)).set .l (lo8 v) := rfl
@[simp] theorem State.setHl_sp (v : Word) (s : State) : (s.setHl v).sp = s.sp := rfl
@[simp] theorem State.setHl_pc (v : Word) (s : State) : (s.setHl v).pc = s.pc := rfl
@[simp] theorem State.setHl_ie (v : Word) (s : State) : (s.setHl v).ie = s.ie := rfl
@[simp] theorem State.setHl_iflag (v : Word) (s : State) : (s.setHl v).iflag = s.iflag := rfl
@[simp] theorem State.setHl_ime (v : Word) (s : State) : (s.setHl v).ime = s.ime := rfl
@[simp] theorem State.setHl_imePending (v : Word) (s : State) : (s.setHl v).imePending = s.imePending := rfl
@[simp] theorem State.setHl_run (v : Word) (s : State) : (s.setHl v).run = s.run := rfl
@[simp] theorem State.setHl_nextActive (v : Word) (s : State) : (s.setHl v).nextActive = s.nextActive := rfl
@[simp] theorem State.setHl_fault (v : Word) (s : State) : (s.setHl v).fault = s.fault := rfl
@[simp] theorem State.setHl_timer (v : Word) (s : State) : (s.setHl v).timer = s.timer := rfl
@[simp] theorem State.setHl_lcd (v : Word) (s : State) : (s.setHl v).lcd = s.lcd := rfl
@[simp] theorem State.setHl_dma (v : Word) (s : State) : (s.setHl v).dma = s.dma := rfl
@[simp] theorem State.setHl_bootRomEnabled (v : Word) (s : State) : (s.setHl v).bootRomEnabled = s.bootRomEnabled := rfl
@[simp] theorem State.setHl_cartridge (v : Word) (s : State) : (s.setHl v).cartridge = s.cartridge := rfl
@[simp] theorem State.setHl_joypad (v : Word) (s : State) : (s.setHl v).joypad = s.joypad := rfl
@[simp] theorem State.setHl_mem (v : Word) (s : State) : (s.setHl v).mem = s.mem := rfl
@[simp] theorem State.setHl_cycle (v : Word) (s : State) : (s.setHl v).cycle = s.cycle := rfl
@[simp] theorem State.setHl_eiDelay (v : Word) (s : State) : (s.setHl v).eiDelay = s.eiDelay := rfl
@[simp] theorem State.setHl_bootRom (v : Word) (s : State) : (s.setHl v).bootRom = s.bootRom := rfl

@[simp] theorem State.setSp_regs (v : Word) (s : State) : (s.setSp v).regs = s.regs := rfl
@[simp] theorem State.setSp_sp (v : Word) (s : State) : (s.setSp v).sp = v := rfl
@[simp] theorem State.setSp_pc (v : Word) (s : State) : (s.setSp v).pc = s.pc := rfl
@[simp] theorem State.setSp_ie (v : Word) (s : State) : (s.setSp v).ie = s.ie := rfl
@[simp] theorem State.setSp_iflag (v : Word) (s : State) : (s.setSp v).iflag = s.iflag := rfl
@[simp] theorem State.setSp_ime (v : Word) (s : State) : (s.setSp v).ime = s.ime := rfl
@[simp] theorem State.setSp_imePending (v : Word) (s : State) : (s.setSp v).imePending = s.imePending := rfl
@[simp] theorem State.setSp_run (v : Word) (s : State) : (s.setSp v).run = s.run := rfl
@[simp] theorem State.setSp_nextActive (v : Word) (s : State) : (s.setSp v).nextActive = s.nextActive := rfl
@[simp] theorem State.setSp_fault (v : Word) (s : State) : (s.setSp v).fault = s.fault := rfl
@[simp] theorem State.setSp_timer (v : Word) (s : State) : (s.setSp v).timer = s.timer := rfl
@[simp] theorem State.setSp_lcd (v : Word) (s : State) : (s.setSp v).lcd = s.lcd := rfl
@[simp] theorem State.setSp_dma (v : Word) (s : State) : (s.setSp v).dma = s.dma := rfl
@[simp] theorem State.setSp_bootRomEnabled (v : Word) (s : State) : (s.setSp v).bootRomEnabled = s.bootRomEnabled := rfl
@[simp] theorem State.setSp_cartridge (v : Word) (s : State) : (s.setSp v).cartridge = s.cartridge := rfl
@[simp] theorem State.setSp_joypad (v : Word) (s : State) : (s.setSp v).joypad = s.joypad := rfl
@[simp] theorem State.setSp_mem (v : Word) (s : State) : (s.setSp v).mem = s.mem := rfl
@[simp] theorem State.setSp_cycle (v : Word) (s : State) : (s.setSp v).cycle = s.cycle := rfl
@[simp] theorem State.setSp_eiDelay (v : Word) (s : State) : (s.setSp v).eiDelay = s.eiDelay := rfl
@[simp] theorem State.setSp_bootRom (v : Word) (s : State) : (s.setSp v).bootRom = s.bootRom := rfl

@[simp] theorem State.setPc_regs (v : Word) (s : State) : (s.setPc v).regs = s.regs := rfl
@[simp] theorem State.setPc_sp (v : Word) (s : State) : (s.setPc v).sp = s.sp := rfl
@[simp] theorem State.setPc_pc (v : Word) (s : State) : (s.setPc v).pc = v := rfl
@[simp] theorem State.setPc_ie (v : Word) (s : State) : (s.setPc v).ie = s.ie := rfl
@[simp] theorem State.setPc_iflag (v : Word) (s : State) : (s.setPc v).iflag = s.iflag := rfl
@[simp] theorem State.setPc_ime (v : Word) (s : State) : (s.setPc v).ime = s.ime := rfl
@[simp] theorem State.setPc_imePending (v : Word) (s : State) : (s.setPc v).imePending = s.imePending := rfl
@[simp] theorem State.setPc_run (v : Word) (s : State) : (s.setPc v).run = s.run := rfl
@[simp] theorem State.setPc_nextActive (v : Word) (s : State) : (s.setPc v).nextActive = s.nextActive := rfl
@[simp] theorem State.setPc_fault (v : Word) (s : State) : (s.setPc v).fault = s.fault := rfl
@[simp] theorem State.setPc_timer (v : Word) (s : State) : (s.setPc v).timer = s.timer := rfl
@[simp] theorem State.setPc_lcd (v : Word) (s : State) : (s.setPc v).lcd = s.lcd := rfl
@[simp] theorem State.setPc_dma (v : Word) (s : State) : (s.setPc v).dma = s.dma := rfl
@[simp] theorem State.setPc_bootRomEnabled (v : Word) (s : State) : (s.setPc v).bootRomEnabled = s.bootRomEnabled := rfl
@[simp] theorem State.setPc_cartridge (v : Word) (s : State) : (s.setPc v).cartridge = s.cartridge := rfl
@[simp] theorem State.setPc_joypad (v : Word) (s : State) : (s.setPc v).joypad = s.joypad := rfl
@[simp] theorem State.setPc_mem (v : Word) (s : State) : (s.setPc v).mem = s.mem := rfl
@[simp] theorem State.setPc_cycle (v : Word) (s : State) : (s.setPc v).cycle = s.cycle := rfl
@[simp] theorem State.setPc_eiDelay (v : Word) (s : State) : (s.setPc v).eiDelay = s.eiDelay := rfl
@[simp] theorem State.setPc_bootRom (v : Word) (s : State) : (s.setPc v).bootRom = s.bootRom := rfl

@[simp] theorem State.setIme_regs (b : Bool) (s : State) : (s.setIme b).regs = s.regs := rfl
@[simp] theorem State.setIme_sp (b : Bool) (s : State) : (s.setIme b).sp = s.sp := rfl
@[simp] theorem State.setIme_pc (b : Bool) (s : State) : (s.setIme b).pc = s.pc := rfl
@[simp] theorem State.setIme_ie (b : Bool) (s : State) : (s.setIme b).ie = s.ie := rfl
@[simp] theorem State.setIme_iflag (b : Bool) (s : State) : (s.setIme b).iflag = s.iflag := rfl
@[simp] theorem State.setIme_ime (b : Bool) (s : State) : (s.setIme b).ime = b := rfl
@[simp] theorem State.setIme_imePending (b : Bool) (s : State) : (s.setIme b).imePending = s.imePending := rfl
@[simp] theorem State.setIme_run (b : Bool) (s : State) : (s.setIme b).run = s.run := rfl
@[simp] theorem State.setIme_nextActive (b : Bool) (s : State) : (s.setIme b).nextActive = s.nextActive := rfl
@[simp] theorem State.setIme_fault (b : Bool) (s : State) : (s.setIme b).fault = s.fault := rfl
@[simp] theorem State.setIme_timer (b : Bool) (s : State) : (s.setIme b).timer = s.timer := rfl
@[simp] theorem State.setIme_lcd (b : Bool) (s : State) : (s.setIme b).lcd = s.lcd := rfl
@[simp] theorem State.setIme_dma (b : Bool) (s : State) : (s.setIme b).dma = s.dma := rfl
@[simp] theorem State.setIme_bootRomEnabled (b : Bool) (s : State) : (s.setIme b).bootRomEnabled = s.bootRomEnabled := rfl
@[simp] theorem State.setIme_cartridge (b : Bool) (s : State) : (s.setIme b).cartridge = s.cartridge := rfl
@[simp] theorem State.setIme_joypad (b : Bool) (s : State) : (s.setIme b).joypad = s.joypad := rfl
@[simp] theorem State.setIme_mem (b : Bool) (s : State) : (s.setIme b).mem = s.mem := rfl
@[simp] theorem State.setIme_cycle (b : Bool) (s : State) : (s.setIme b).cycle = s.cycle := rfl
@[simp] theorem State.setIme_eiDelay (b : Bool) (s : State) : (s.setIme b).eiDelay = s.eiDelay := rfl
@[simp] theorem State.setIme_bootRom (b : Bool) (s : State) : (s.setIme b).bootRom = s.bootRom := rfl

@[simp] theorem State.setImePending_regs (b : Bool) (s : State) : (s.setImePending b).regs = s.regs := rfl
@[simp] theorem State.setImePending_sp (b : Bool) (s : State) : (s.setImePending b).sp = s.sp := rfl
@[simp] theorem State.setImePending_pc (b : Bool) (s : State) : (s.setImePending b).pc = s.pc := rfl
@[simp] theorem State.setImePending_ie (b : Bool) (s : State) : (s.setImePending b).ie = s.ie := rfl
@[simp] theorem State.setImePending_iflag (b : Bool) (s : State) : (s.setImePending b).iflag = s.iflag := rfl
@[simp] theorem State.setImePending_ime (b : Bool) (s : State) : (s.setImePending b).ime = s.ime := rfl
@[simp] theorem State.setImePending_imePending (b : Bool) (s : State) : (s.setImePending b).imePending = b := rfl
@[simp] theorem State.setImePending_run (b : Bool) (s : State) : (s.setImePending b).run = s.run := rfl
@[simp] theorem State.setImePending_nextActive (b : Bool) (s : State) : (s.setImePending b).nextActive = s.nextActive := rfl
@[simp] theorem State.setImePending_fault (b : Bool) (s : State) : (s.setImePending b).fault = s.fault := rfl
@[simp] theorem State.setImePending_timer (b : Bool) (s : State) : (s.setImePending b).timer = s.timer := rfl
@[simp] theorem State.setImePending_lcd (b : Bool) (s : State) : (s.setImePending b).lcd = s.lcd := rfl
@[simp] theorem State.setImePending_dma (b : Bool) (s : State) : (s.setImePending b).dma = s.dma := rfl
@[simp] theorem State.setImePending_bootRomEnabled (b : Bool) (s : State) : (s.setImePending b).bootRomEnabled = s.bootRomEnabled := rfl
@[simp] theorem State.setImePending_cartridge (b : Bool) (s : State) : (s.setImePending b).cartridge = s.cartridge := rfl
@[simp] theorem State.setImePending_joypad (b : Bool) (s : State) : (s.setImePending b).joypad = s.joypad := rfl
@[simp] theorem State.setImePending_mem (b : Bool) (s : State) : (s.setImePending b).mem = s.mem := rfl
@[simp] theorem State.setImePending_cycle (b : Bool) (s : State) : (s.setImePending b).cycle = s.cycle := rfl
@[simp] theorem State.setImePending_eiDelay (b : Bool) (s : State) : (s.setImePending b).eiDelay = s.eiDelay := rfl
@[simp] theorem State.setImePending_bootRom (b : Bool) (s : State) : (s.setImePending b).bootRom = s.bootRom := rfl

@[simp] theorem State.spend_regs (n : Nat) (s : State) : (s.spend n).regs = s.regs := rfl
@[simp] theorem State.spend_sp (n : Nat) (s : State) : (s.spend n).sp = s.sp := rfl
@[simp] theorem State.spend_pc (n : Nat) (s : State) : (s.spend n).pc = s.pc := rfl
@[simp] theorem State.spend_ie (n : Nat) (s : State) : (s.spend n).ie = s.ie := rfl
@[simp] theorem State.spend_iflag (n : Nat) (s : State) : (s.spend n).iflag = s.iflag := rfl
@[simp] theorem State.spend_ime (n : Nat) (s : State) : (s.spend n).ime = s.ime := rfl
@[simp] theorem State.spend_imePending (n : Nat) (s : State) : (s.spend n).imePending = s.imePending := rfl
@[simp] theorem State.spend_run (n : Nat) (s : State) : (s.spend n).run = s.run := rfl
@[simp] theorem State.spend_nextActive (n : Nat) (s : State) : (s.spend n).nextActive = s.cycle + n := rfl
@[simp] theorem State.spend_fault (n : Nat) (s : State) : (s.spend n).fault = s.fault := rfl
@[simp] theorem State.spend_timer (n : Nat) (s : State) : (s.spend n).timer = s.timer := rfl
@[simp] theorem State.spend_lcd (n : Nat) (s : State) : (s.spend n).lcd = s.lcd := rfl
@[simp] theorem State.spend_dma (n : Nat) (s : State) : (s.spend n).dma = s.dma := rfl
@[simp] theorem State.spend_bootRomEnabled (n : Nat) (s : State) : (s.spend n).bootRomEnabled = s.bootRomEnabled := rfl
@[simp] theorem State.spend_cartridge (n : Nat) (s : State) : (s.spend n).cartridge = s.cartridge := rfl
@[simp] theorem State.spend_joypad (n : Nat) (s : State) : (s.spend n).joypad = s.joypad := rfl
@[simp] theorem State.spend_mem (n : Nat) (s : State) : (s.spend n).mem = s.mem := rfl
@[simp] theorem State.spend_cycle (n : Nat) (s : State) : (s.spend n).cycle = s.cycle := rfl
@[simp] theorem State.spend_eiDelay (n : Nat) (s : State) : (s.spend n).eiDelay = s.eiDelay := rfl
@[simp] theorem State.spend_bootRom (n : Nat) (s : State) : (s.spend n).bootRom = s.bootRom := rfl

@[simp] theorem State.raiseFault_regs (f : Fault) (s : State) : (s.raiseFault f).regs = s.regs := rfl
@[simp] theorem State.raiseFault_sp (f : Fault) (s : State) : (s.raiseFault f).sp = s.sp := rfl
@[simp] theorem State.raiseFault_pc (f : Fault) (s : State) : (s.raiseFault f).pc = s.pc := rfl
@[simp] theorem State.raiseFault_ie (f : Fault) (s : State) : (s.raiseFault f).ie = s.ie := rfl
@[simp] theorem State.raiseFault_iflag (f : Fault) (s : State) : (s.raiseFault f).iflag = s.iflag := rfl
@[simp] theorem State.raiseFault_ime (f : Fault) (s : State) : (s.raiseFault f).ime = s.ime := rfl
@[simp] theorem State.raiseFault_imePending (f : Fault) (s : State) : (s.raiseFault f).imePending = s.imePending := rfl
@[simp] theorem State.raiseFault_run (f : Fault) (s : State) : (s.raiseFault f).run = s.run := rfl
@[simp] theorem State.raiseFault_nextActive (f : Fault) (s : State) : (s.raiseFault f).nextActive = s.nextActive := rfl
@[simp] theorem State.raiseFault_fault (f : Fault) (s : State) : (s.raiseFault f).fault = (s.fault <|> some f) := rfl
@[simp] theorem State.raiseFault_timer (f : Fault) (s : State) : (s.raiseFault f).timer = s.timer := rfl
@[simp] theorem State.raiseFault_lcd (f : Fault) (s : State) : (s.raiseFault f).lcd = s.lcd := rfl
@[simp] theorem State.raiseFault_dma (f : Fault) (s : State) : (s.raiseFault f).dma = s.dma := rfl
@[simp] theorem State.raiseFault_bootRomEnabled (f : Fault) (s : State) : (s.raiseFault f).bootRomEnabled = s.bootRomEnabled := rfl
@[simp] theorem State.raiseFault_cartridge (f : Fault) (s : State) : (s.raiseFault f).cartridge = s.cartridge := rfl
@[simp] theorem State.raiseFault_joypad (f : Fault) (s : State) : (s.raiseFault f).joypad = s.joypad := rfl
@[simp] theorem State.raiseFault_mem (f : Fault) (s : State) : (s.raiseFault f).mem = s.mem := rfl
@[simp] theorem State.raiseFault_cycle (f : Fault) (s : State) : (s.raiseFault f).cycle = s.cycle := rfl
@[simp] theorem State.raiseFault_eiDelay (f : Fault) (s : State) : (s.raiseFault f).eiDelay = s.eiDelay := rfl
@[simp] theorem State.raiseFault_bootRom (f : Fault) (s : State) : (s.raiseFault f).bootRom = s.bootRom := rfl

@[simp] theorem State.haltRun_regs (s : State) : (s.haltRun).regs = s.regs := rfl
@[simp] theorem State.haltRun_sp (s : State) : (s.haltRun).sp = s.sp := rfl
@[simp] theorem State.haltRun_pc (s : State) : (s.haltRun).pc = s.pc := rfl
@[simp] theorem State.haltRun_ie (s : State) : (s.haltRun).ie = s.ie := rfl
@[simp] theorem State.haltRun_iflag (s : State) : (s.haltRun).iflag = s.iflag := rfl
@[simp] theorem State.haltRun_ime (s : State) : (s.haltRun).ime = s.ime := rfl
@[simp] theorem State.haltRun_imePending (s : State) : (s.haltRun).imePending = s.imePending := rfl
@[simp] theorem State.haltRun_run (s : State) : (s.haltRun).run = .halted := rfl
@[simp] theorem State.haltRun_nextActive (s : State) : (s.haltRun).nextActive = s.nextActive := rfl
@[simp] theorem State.haltRun_fault (s : State) : (s.haltRun).fault = s.fault := rfl
@[simp] theorem State.haltRun_timer (s : State) : (s.haltRun).timer = s.timer := rfl
@[simp] theorem State.haltRun_lcd (s : State) : (s.haltRun).lcd = s.lcd := rfl
@[simp] theorem State.haltRun_dma (s : State) : (s.haltRun).dma = s.dma := rfl
@[simp] theorem State.haltRun_bootRomEnabled (s : State) : (s.haltRun).bootRomEnabled = s.bootRomEnabled := rfl
@[simp] theorem State.haltRun_cartridge (s : State) : (s.haltRun).cartridge = s.cartridge := rfl
@[simp] theorem State.haltRun_joypad (s : State) : (s.haltRun).joypad = s.joypad := rfl
@[simp] theorem State.haltRun_mem (s : State) : (s.haltRun).mem = s.mem := rfl
@[simp] theorem State.haltRun_cycle (s : State) : (s.haltRun).cycle = s.cycle := rfl
@[simp] theorem State.haltRun_eiDelay (s : State) : (s.haltRun).eiDelay = s.eiDelay := rfl
@[simp] theorem State.haltRun_bootRom (s : State) : (s.haltRun).bootRom = s.bootRom := rfl

@[simp] theorem State.dropWord_regs (s : State) : (s.dropWord).regs = s.regs := rfl
@[simp] theorem State.dropWord_sp (s : State) : (s.dropWord).sp = s.sp + 2 := rfl
@[simp] theorem State.dropWord_pc (s : State) : (s.dropWord).pc = s.pc := rfl
@[simp] theorem State.dropWord_ie (s : State) : (s.dropWord).ie = s.ie := rfl
@[simp] theorem State.dropWord_iflag (s : State) : (s.dropWord).iflag = s.iflag := rfl
@[simp] theorem State.dropWord_ime (s : State) : (s.dropWord).ime = s.ime := rfl
@[simp] theorem State.dropWord_imePending (s : State) : (s.dropWord).imePending = s.imePending := rfl
@[simp] theorem State.dropWord_run (s : State) : (s.dropWord).run = s.run := rfl
@[simp] theorem State.dropWord_nextActive (s : State) : (s.dropWord).nextActive = s.nextActive := rfl
@[simp] theorem State.dropWord_fault (s : State) : (s.dropWord).fault = s.fault := rfl
@[simp] theorem State.dropWord_timer (s : State) : (s.dropWord).timer = s.timer := rfl
@[simp] theorem State.dropWord_lcd (s : State) : (s.dropWord).lcd = s.lcd := rfl
@[simp] theorem State.dropWord_dma (s : State) : (s.dropWord).dma = s.dma := rfl
@[simp] theorem State.dropWord_bootRomEnabled (s : State) : (s.dropWord).bootRomEnabled = s.bootRomEnabled := rfl
@[simp] theorem State.dropWord_cartridge (s : State) : (s.dropWord).cartridge = s.cartridge := rfl
@[simp] theorem State.dropWord_joypad (s : State) : (s.dropWord).joypad = s.joypad := rfl
@[simp] theorem State.dropWord_mem (s : State) : (s.dropWord).mem = s.mem := rfl
@[simp] theorem State.dropWord_cycle (s : State) : (s.dropWord).cycle = s.cycle := rfl
@[simp] theorem State.dropWord_eiDelay (s : State) : (s.dropWord).eiDelay = s.eiDelay := rfl
@[simp] theorem State.dropWord_bootRom (s : State) : (s.dropWord).bootRom = s.bootRom := rfl

@[simp] theorem State.raise_regs (i : Nat) (s : State) : (s.raise i).regs = s.regs := rfl
@[simp] theorem State.raise_sp (i : Nat) (s : State) : (s.raise i).sp = s.sp := rfl
@[simp] theorem State.raise_pc (i : Nat) (s : State) : (s.raise i).pc = s.pc := rfl
@[simp] theorem State.raise_ie (i : Nat) (s : State) : (s.raise i).ie = s.ie := rfl
@[simp] theorem State.raise_iflag (i : Nat) (s : State) : (s.raise i).iflag = s.iflag ||| (1#8 <<< i) := rfl
@[simp] theorem State.raise_ime (i : Nat) (s : State) : (s.raise i).ime = s.ime := rfl
@[simp] theorem State.raise_imePending (i : Nat) (s : State) : (s.raise i).imePending = s.imePending := rfl
@[simp] theorem State.raise_run (i : Nat) (s : State) : (s.raise i).run = s.run := rfl
@[simp] theorem State.raise_nextActive (i : Nat) (s : State) : (s.raise i).nextActive = s.nextActive := rfl
@[simp] theorem State.raise_fault (i : Nat) (s : State) : (s.raise i).fault = s.fault := rfl
@[simp] theorem State.raise_timer (i : Nat) (s : State) : (s.raise i).timer = s.timer := rfl
@[simp] theorem State.raise_lcd (i : Nat) (s : State) : (s.raise i).lcd = s.lcd := rfl
@[simp] theorem State.raise_dma (i : Nat) (s : State) : (s.raise i).dma = s.dma := rfl
@[simp] theorem State.raise_bootRomEnabled (i : Nat) (s : State) : (s.raise i).bootRomEnabled = s.bootRomEnabled := rfl
@[simp] theorem State.raise_cartridge (i : Nat) (s : State) : (s.raise i).cartridge = s.cartridge := rfl
@[simp] theorem State.raise_joypad (i : Nat) (s : State) : (s.raise i).joypad = s.joypad := rfl
@[simp] theorem State.raise_mem (i : Nat) (s : State) : (s.raise i).mem = s.mem := rfl
@[simp] theorem State.raise_cycle (i : Nat) (s : State) : (s.raise i).cycle = s.cycle := rfl
@[simp] theorem State.raise_eiDelay (i : Nat) (s : State) : (s.raise i).eiDelay = s.eiDelay := rfl
@[simp] theorem State.raise_bootRom (i : Nat) (s : State) : (s.raise i).bootRom = s.bootRom := rfl

@[simp] theorem State.poke_regs (a : Nat) (v : Byte) (s : State) : (s.poke a v).regs = s.regs := rfl
@[simp] theorem State.poke_sp (a : Nat) (v : Byte) (s : State) : (s.poke a v).sp = s.sp := rfl
@[simp] theorem State.poke_pc (a : Nat) (v : Byte) (s : State) : (s.poke a v).pc = s.pc := rfl
@[simp] theorem State.poke_ie (a : Nat) (v : Byte) (s : State) : (s.poke a v).ie = s.ie := rfl
@[simp] theorem State.poke_iflag (a : Nat) (v : Byte) (s : State) : (s.poke a v).iflag = s.iflag := rfl
@[simp] theorem State.poke_ime (a : Nat) (v : Byte) (s : State) : (s.poke a v).ime = s.ime := rfl
@[simp] theorem State.poke_imePending (a : Nat) (v : Byte) (s : State) : (s.poke a v).imePending = s.imePending := rfl
@[simp] theorem State.poke_run (a : Nat) (v : Byte) (s : State) : (s.poke a v).run = s.run := rfl
@[simp] theorem State.poke_nextActive (a : Nat) (v : Byte) (s : State) : (s.poke a v).nextActive = s.nextActive := rfl
@[simp] theorem State.poke_fault (a : Nat) (v : Byte) (s : State) : (s.poke a v).fault = s.fault := rfl
@[simp] theorem State.poke_timer (a : Nat) (v : Byte) (s : State) : (s.poke a v).timer = s.timer := rfl
@[simp] theorem State.poke_lcd (a : Nat) (v : Byte) (s : State) : (s.poke a v).lcd = s.lcd := rfl
@[simp] theorem State.poke_dma (a : Nat) (v : Byte) (s : State) : (s.poke a v).dma = s.dma := rfl
@[simp] theorem State.poke_bootRomEnabled (a : Nat) (v : Byte) (s : State) : (s.poke a v).bootRomEnabled = s.bootRomEnabled := rfl
@[simp] theorem State.poke_cartridge (a : Nat) (v : Byte) (s : State) : (s.poke a v).cartridge = s.cartridge := rfl
@[simp] theorem State.poke_joypad (a : Nat) (v : Byte) (s : State) : (s.poke a v).joypad = s.joypad := rfl
@[simp] theorem State.poke_mem (a : Nat) (v : Byte) (s : State) : (s.poke a v).mem = Mem.write s.mem a v := rfl
@[simp] theorem State.poke_cycle (a : Nat) (v : Byte) (s : State) : (s.poke a v).cycle = s.cycle := rfl
@[simp] theorem State.poke_eiDelay (a : Nat) (v : Byte) (s : State) : (s.poke a v).eiDelay = s.eiDelay := rfl
@[simp] theorem State.poke_bootRom (a : Nat) (v : Byte) (s : State) : (s.poke a v).bootRom = s.bootRom := rfl

@[simp] theorem State.setMode_regs (m : BitVec 2) (s : State) : (s.setMode m).regs = s.regs := rfl
@[simp] theorem State.setMode_sp (m : BitVec 2) (s : State) : (s.setMode m).sp = s.sp := rfl
@[simp] theorem State.setMode_pc (m : BitVec 2) (s : State) : (s.setMode m).pc = s.pc := rfl
@[simp] theorem State.setMode_ie (m : BitVec 2) (s : State) : (s.setMode m).ie = s.ie := rfl
@[simp] theorem State.setMode_iflag (m : BitVec 2) (s : State) : (s.setMode m).iflag = s.iflag := rfl
@[simp] theorem State.setMode_ime (m : BitVec 2) (s : State) : (s.setMode m).ime = s.ime := rfl
@[simp] theorem State.setMode_imePending (m : BitVec 2) (s : State) : (s.setMode m).imePending = s.imePending := rfl
@[simp] theorem State.setMode_run (m : BitVec 2) (s : State) : (s.setMode m).run = s.run := rfl
@[simp] theorem State.setMode_nextActive (m : BitVec 2) (s : State) : (s.setMode m).nextActive = s.nextActive := rfl
@[simp] theorem State.setMode_fault (m : BitVec 2) (s : State) : (s.setMode m).fault = s.fault := rfl
@[simp] theorem State.setMode_timer (m : BitVec 2) (s : State) : (s.setMode m).timer = s.timer := rfl
@[simp] theorem State.setMode_lcd (m : BitVec 2) (s : State) : (s.setMode m).lcd = { s.lcd with stat := statWithMode s.lcd.stat m } := rfl
@[simp] theorem State.setMode_dma (m : BitVec 2) (s : State) : (s.setMode m).dma = s.dma := rfl
@[simp] theorem State.setMode_bootRomEnabled (m : BitVec 2) (s : State) : (s.setMode m).bootRomEnabled = s.bootRomEnabled := rfl
@[simp] theorem State.setMode_cartridge (m : BitVec 2) (s : State) : (s.setMode m).cartridge = s.cartridge := rfl
@[simp] theorem State.setMode_joypad (m : BitVec 2) (s : State) : (s.setMode m).joypad = s.joypad := rfl
@[simp] theorem State.setMode_mem (m : BitVec 2) (s : State) : (s.setMode m).mem = s.mem := rfl
@[simp] theorem State.setMode_cycle (m : BitVec 2) (s : State) : (s.setMode m).cycle = s.cycle := rfl
@[simp] theorem State.setMode_eiDelay (m : BitVec 2) (s : State) : (s.setMode m).eiDelay = s.eiDelay := rfl
@[simp] theorem State.setMode_bootRom (m : BitVec 2) (s : State) : (s.setMode m).bootRom = s.bootRom := rfl

@[simp] theorem State.displayOn_regs (s : State) : (s.displayOn).regs = s.regs := rfl
@[simp] theorem State.displayOn_sp (s : State) : (s.displayOn).sp = s.sp := rfl
@[simp] theorem State.displayOn_pc (s : State) : (s.displayOn).pc = s.pc := rfl
@[simp] theorem State.displayOn_ie (s : State) : (s.displayOn).ie = s.ie := rfl
@[simp] theorem State.displayOn_iflag (s : State) : (s.displayOn).iflag = s.iflag := rfl
@[simp] theorem State.displayOn_ime (s : State) : (s.displayOn).ime = s.ime := rfl
@[simp] theorem State.displayOn_imePending (s : State) : (s.displayOn).imePending = s.imePending := rfl
@[simp] theorem State.displayOn_run (s : State) : (s.displayOn).run = s.run := rfl
@[simp] theorem State.displayOn_nextActive (s : State) : (s.displayOn).nextActive = s.nextActive := rfl
@[simp] theorem State.displayOn_fault (s : State) : (s.displayOn).fault = s.fault := rfl
@[simp] theorem State.displayOn_timer (s : State) : (s.displayOn).timer = s.timer := rfl
@[simp] theorem State.displayOn_lcd (s : State) : (s.displayOn).lcd = { s.lcd with power := .on, lineOrigin := s.cycle + 1 } := rfl
@[simp] theorem State.displayOn_dma (s : State) : (s.displayOn).dma = s.dma := rfl
@[simp] theorem State.displayOn_bootRomEnabled (s : State) : (s.displayOn).bootRomEnabled = s.bootRomEnabled := rfl
@[simp] theorem State.displayOn_cartridge (s : State) : (s.displayOn).cartridge = s.cartridge := rfl
@[simp] theorem State.displayOn_joypad (s : State) : (s.displayOn).joypad = s.joypad := rfl
@[simp] theorem State.displayOn_mem (s : State) : (s.displayOn).mem = s.mem := rfl
@[simp] theorem State.displayOn_cycle (s : State) : (s.displayOn).cycle = s.cycle := rfl
@[simp] theorem State.displayOn_eiDelay (s : State) : (s.displayOn).eiDelay = s.eiDelay := rfl
@[simp] theorem State.displayOn_bootRom (s : State) : (s.displayOn).bootRom = s.bootRom := rfl

@[simp] theorem State.nextCycle_regs (s : State) : (s.nextCycle).regs = s.regs := rfl
@[simp] theorem State.nextCycle_sp (s : State) : (s.nextCycle).sp = s.sp := rfl
@[simp] theorem State.nextCycle_pc (s : State) : (s.nextCycle).pc = s.pc := rfl
@[simp] theorem State.nextCycle_ie (s : State) : (s.nextCycle).ie = s.ie := rfl
@[simp] theorem State.nextCycle_iflag (s : State) : (s.nextCycle).iflag = s.iflag := rfl
@[simp] theorem State.nextCycle_ime (s : State) : (s.nextCycle).ime = s.ime := rfl
@[simp] theorem State.nextCycle_imePending (s : State) : (s.nextCycle).imePending = s.imePending := rfl
@[simp] theorem State.nextCycle_run (s : State) : (s.nextCycle).run = s.run := rfl
@[simp] theorem State.nextCycle_nextActive (s : State) : (s.nextCycle).nextActive = s.nextActive := rfl
@[simp] theorem State.nextCycle_fault (s : State) : (s.nextCycle).fault = s.fault := rfl
@[simp] theorem State.nextCycle_timer (s : State) : (s.nextCycle).timer = s.timer := rfl
@[simp] theorem State.nextCycle_lcd (s : State) : (s.nextCycle).lcd = s.lcd := rfl
@[simp] theorem State.nextCycle_dma (s : State) : (s.nextCycle).dma = s.dma := rfl
@[simp] theorem State.nextCycle_bootRomEnabled (s : State) : (s.nextCycle).bootRomEnabled = s.bootRomEnabled := rfl
@[simp] theorem State.nextCycle_cartridge (s : State) : (s.nextCycle).cartridge = s.cartridge := rfl
@[simp] theorem State.nextCycle_joypad (s : State) : (s.nextCycle).joypad = s.joypad := rfl
@[simp] theorem State.nextCycle_mem (s : State) : (s.nextCycle).mem = s.mem := rfl
@[simp] theorem State.nextCycle_cycle (s : State) : (s.nextCycle).cycle = s.cycle + 1 := rfl
@[simp] theorem State.nextCycle_eiDelay (s : State) : (s.nextCycle).eiDelay = s.eiDelay := rfl
@[simp] theorem State.nextCycle_bootRom (s : State) : (s.nextCycle).bootRom = s.bootRom := rfl

/-- What the end of an instruction does to IME (R217, R230). -/
@[simp] theorem State.promote_ime (s : State) : s.promote.ime = (s.ime || (s.eiDelay && s.imePending)) := by
  unfold State.promote
  cases s.eiDelay <;> cases s.imePending <;> simp

/-- What the end of an instruction does to `imePending` (R217, R230). -/
@[simp] theorem State.promote_imePending (s : State) :
    s.promote.imePending = (s.imePending && !s.eiDelay) := by
  unfold State.promote
  cases s.eiDelay <;> cases hp : s.imePending <;> simp [hp]

@[simp] theorem State.promote_regs (s : State) : s.promote.regs = s.regs := by
  unfold State.promote
  split <;> rfl
@[simp] theorem State.promote_sp (s : State) : s.promote.sp = s.sp := by
  unfold State.promote
  split <;> rfl
@[simp] theorem State.promote_pc (s : State) : s.promote.pc = s.pc := by
  unfold State.promote
  split <;> rfl
@[simp] theorem State.promote_ie (s : State) : s.promote.ie = s.ie := by
  unfold State.promote
  split <;> rfl
@[simp] theorem State.promote_iflag (s : State) : s.promote.iflag = s.iflag := by
  unfold State.promote
  split <;> rfl
@[simp] theorem State.promote_run (s : State) : s.promote.run = s.run := by
  unfold State.promote
  split <;> rfl
@[simp] theorem State.promote_nextActive (s : State) : s.promote.nextActive = s.nextActive := by
  unfold State.promote
  split <;> rfl
@[simp] theorem State.promote_fault (s : State) : s.promote.fault = s.fault := by
  unfold State.promote
  split <;> rfl
@[simp] theorem State.promote_timer (s : State) : s.promote.timer = s.timer := by
  unfold State.promote
  split <;> rfl
@[simp] theorem State.promote_lcd (s : State) : s.promote.lcd = s.lcd := by
  unfold State.promote
  split <;> rfl
@[simp] theorem State.promote_dma (s : State) : s.promote.dma = s.dma := by
  unfold State.promote
  split <;> rfl
@[simp] theorem State.promote_bootRomEnabled (s : State) : s.promote.bootRomEnabled = s.bootRomEnabled := by
  unfold State.promote
  split <;> rfl
@[simp] theorem State.promote_cartridge (s : State) : s.promote.cartridge = s.cartridge := by
  unfold State.promote
  split <;> rfl
@[simp] theorem State.promote_joypad (s : State) : s.promote.joypad = s.joypad := by
  unfold State.promote
  split <;> rfl
@[simp] theorem State.promote_mem (s : State) : s.promote.mem = s.mem := by
  unfold State.promote
  split <;> rfl
@[simp] theorem State.promote_cycle (s : State) : s.promote.cycle = s.cycle := by
  unfold State.promote
  split <;> rfl
@[simp] theorem State.promote_eiDelay (s : State) : s.promote.eiDelay = s.eiDelay := by
  unfold State.promote
  split <;> rfl
@[simp] theorem State.promote_bootRom (s : State) : s.promote.bootRom = s.bootRom := by
  unfold State.promote
  split <;> rfl

@[simp] theorem State.retire_regs (length cycles : Nat) (s : State) : (s.retire length cycles).regs = s.regs := by
  simp [State.retire]
@[simp] theorem State.retire_sp (length cycles : Nat) (s : State) : (s.retire length cycles).sp = s.sp := by
  simp [State.retire]
@[simp] theorem State.retire_pc (length cycles : Nat) (s : State) : (s.retire length cycles).pc = s.pc + BitVec.ofNat 16 length := by
  simp [State.retire]
@[simp] theorem State.retire_ie (length cycles : Nat) (s : State) : (s.retire length cycles).ie = s.ie := by
  simp [State.retire]
@[simp] theorem State.retire_iflag (length cycles : Nat) (s : State) : (s.retire length cycles).iflag = s.iflag := by
  simp [State.retire]
@[simp] theorem State.retire_ime (length cycles : Nat) (s : State) : (s.retire length cycles).ime = (s.ime || (s.eiDelay && s.imePending)) := by
  simp [State.retire]
@[simp] theorem State.retire_imePending (length cycles : Nat) (s : State) : (s.retire length cycles).imePending = (s.imePending && !s.eiDelay) := by
  simp [State.retire]
@[simp] theorem State.retire_run (length cycles : Nat) (s : State) : (s.retire length cycles).run = s.run := by
  simp [State.retire]
@[simp] theorem State.retire_nextActive (length cycles : Nat) (s : State) : (s.retire length cycles).nextActive = s.cycle + cycles := by
  simp [State.retire]
@[simp] theorem State.retire_fault (length cycles : Nat) (s : State) : (s.retire length cycles).fault = s.fault := by
  simp [State.retire]
@[simp] theorem State.retire_timer (length cycles : Nat) (s : State) : (s.retire length cycles).timer = s.timer := by
  simp [State.retire]
@[simp] theorem State.retire_lcd (length cycles : Nat) (s : State) : (s.retire length cycles).lcd = s.lcd := by
  simp [State.retire]
@[simp] theorem State.retire_dma (length cycles : Nat) (s : State) : (s.retire length cycles).dma = s.dma := by
  simp [State.retire]
@[simp] theorem State.retire_bootRomEnabled (length cycles : Nat) (s : State) : (s.retire length cycles).bootRomEnabled = s.bootRomEnabled := by
  simp [State.retire]
@[simp] theorem State.retire_cartridge (length cycles : Nat) (s : State) : (s.retire length cycles).cartridge = s.cartridge := by
  simp [State.retire]
@[simp] theorem State.retire_joypad (length cycles : Nat) (s : State) : (s.retire length cycles).joypad = s.joypad := by
  simp [State.retire]
@[simp] theorem State.retire_mem (length cycles : Nat) (s : State) : (s.retire length cycles).mem = s.mem := by
  simp [State.retire]
@[simp] theorem State.retire_cycle (length cycles : Nat) (s : State) : (s.retire length cycles).cycle = s.cycle := by
  simp [State.retire]
@[simp] theorem State.retire_eiDelay (length cycles : Nat) (s : State) : (s.retire length cycles).eiDelay = s.eiDelay := by
  simp [State.retire]
@[simp] theorem State.retire_bootRom (length cycles : Nat) (s : State) : (s.retire length cycles).bootRom = s.bootRom := by
  simp [State.retire]

@[simp] theorem State.jump_regs (target : Word) (cycles : Nat) (s : State) : (s.jump target cycles).regs = s.regs := by
  simp [State.jump]
@[simp] theorem State.jump_sp (target : Word) (cycles : Nat) (s : State) : (s.jump target cycles).sp = s.sp := by
  simp [State.jump]
@[simp] theorem State.jump_pc (target : Word) (cycles : Nat) (s : State) : (s.jump target cycles).pc = target := by
  simp [State.jump]
@[simp] theorem State.jump_ie (target : Word) (cycles : Nat) (s : State) : (s.jump target cycles).ie = s.ie := by
  simp [State.jump]
@[simp] theorem State.jump_iflag (target : Word) (cycles : Nat) (s : State) : (s.jump target cycles).iflag = s.iflag := by
  simp [State.jump]
@[simp] theorem State.jump_ime (target : Word) (cycles : Nat) (s : State) : (s.jump target cycles).ime = (s.ime || (s.eiDelay && s.imePending)) := by
  simp [State.jump]
@[simp] theorem State.jump_imePending (target : Word) (cycles : Nat) (s : State) : (s.jump target cycles).imePending = (s.imePending && !s.eiDelay) := by
  simp [State.jump]
@[simp] theorem State.jump_run (target : Word) (cycles : Nat) (s : State) : (s.jump target cycles).run = s.run := by
  simp [State.jump]
@[simp] theorem State.jump_nextActive (target : Word) (cycles : Nat) (s : State) : (s.jump target cycles).nextActive = s.cycle + cycles := by
  simp [State.jump]
@[simp] theorem State.jump_fault (target : Word) (cycles : Nat) (s : State) : (s.jump target cycles).fault = s.fault := by
  simp [State.jump]
@[simp] theorem State.jump_timer (target : Word) (cycles : Nat) (s : State) : (s.jump target cycles).timer = s.timer := by
  simp [State.jump]
@[simp] theorem State.jump_lcd (target : Word) (cycles : Nat) (s : State) : (s.jump target cycles).lcd = s.lcd := by
  simp [State.jump]
@[simp] theorem State.jump_dma (target : Word) (cycles : Nat) (s : State) : (s.jump target cycles).dma = s.dma := by
  simp [State.jump]
@[simp] theorem State.jump_bootRomEnabled (target : Word) (cycles : Nat) (s : State) : (s.jump target cycles).bootRomEnabled = s.bootRomEnabled := by
  simp [State.jump]
@[simp] theorem State.jump_cartridge (target : Word) (cycles : Nat) (s : State) : (s.jump target cycles).cartridge = s.cartridge := by
  simp [State.jump]
@[simp] theorem State.jump_joypad (target : Word) (cycles : Nat) (s : State) : (s.jump target cycles).joypad = s.joypad := by
  simp [State.jump]
@[simp] theorem State.jump_mem (target : Word) (cycles : Nat) (s : State) : (s.jump target cycles).mem = s.mem := by
  simp [State.jump]
@[simp] theorem State.jump_cycle (target : Word) (cycles : Nat) (s : State) : (s.jump target cycles).cycle = s.cycle := by
  simp [State.jump]
@[simp] theorem State.jump_eiDelay (target : Word) (cycles : Nat) (s : State) : (s.jump target cycles).eiDelay = s.eiDelay := by
  simp [State.jump]
@[simp] theorem State.jump_bootRom (target : Word) (cycles : Nat) (s : State) : (s.jump target cycles).bootRom = s.bootRom := by
  simp [State.jump]

/-- Reading a register after writing one (R21, R22). -/
theorem Regs.get_set (x : Regs) (r q : Reg8) (v : Byte) :
    (x.set r v).get q = if q = r then (if r = .f then v &&& 0xF0 else v) else x.get q := by
  cases r <;> cases q <;> rfl

/-- Reading the register just written (R21, R22). -/
@[simp] theorem Regs.get_set_same (x : Regs) (r : Reg8) (v : Byte) :
    (x.set r v).get r = if r = .f then v &&& 0xF0 else v := by
  rw [Regs.get_set, if_pos rfl]

/-- Reading another register than the one written (R21). -/
theorem Regs.get_set_other (x : Regs) {r q : Reg8} (v : Byte) (h : q ≠ r) : (x.set r v).get q = x.get q := by
  rw [Regs.get_set, if_neg h]

/-- A register read depends on the register file alone. -/
theorem State.reg_eq (s : State) (r : Reg8) : s.reg r = s.regs.get r := rfl

end Sys2Proof.Machine
end

