-- ==== Sys2Proof/Laws/Bus.lean ====
section
/-! SUPPORT. What a bus write can do: it leaves everything the CPU holds for itself alone, it keeps memory
canonical, and at an address of plain memory it stores one byte and does nothing else. -/

namespace Sys2Proof.Machine

/-- What only the CPU's own actions change: registers, SP, PC, IME, `imePending`, run state, `nextActive`,
the fault record, the cycle counter and the parameters. -/
structure CpuPart where
  regs : Regs
  sp : Word
  pc : Word
  ime : Bool
  imePending : Bool
  run : RunState
  nextActive : Nat
  fault : Option Fault
  cycle : Nat
  eiDelay : Bool
  bootRom : Option (Vector Byte 256)

/-- The CPU's part of a state. -/
def State.cpuPart (s : State) : CpuPart where
  regs := s.regs
  sp := s.sp
  pc := s.pc
  ime := s.ime
  imePending := s.imePending
  run := s.run
  nextActive := s.nextActive
  fault := s.fault
  cycle := s.cycle
  eiDelay := s.eiDelay
  bootRom := s.bootRom

/-! ### The devices' operations leave the CPU's part alone -/

theorem State.incrementTima_cpuPart (s : State) : s.incrementTima.cpuPart = s.cpuPart := by
  unfold State.incrementTima
  split <;> rfl

theorem State.timerEdge_cpuPart (d : Word) (tac : Byte) (s : State) :
    (s.timerEdge d tac).cpuPart = s.cpuPart := by
  unfold State.timerEdge
  dsimp only
  split
  · exact State.incrementTima_cpuPart _
  · rfl

theorem State.timerWrite_cpuPart (n : Nat) (v : Byte) (s : State) :
    (s.timerWrite n v).cpuPart = s.cpuPart := by
  unfold State.timerWrite
  split
  · exact State.timerEdge_cpuPart _ _ s
  · rfl
  · rfl
  · exact State.timerEdge_cpuPart _ _ s
  · rfl

theorem State.enterMode_cpuPart (m : BitVec 2) (s : State) : (s.enterMode m).cpuPart = s.cpuPart := by
  unfold State.enterMode
  split <;> rfl

theorem State.lycCompare_cpuPart (s : State) : s.lycCompare.cpuPart = s.cpuPart := by
  unfold State.lycCompare
  dsimp only
  split <;> rfl

theorem State.displayOff_cpuPart (s : State) : s.displayOff.cpuPart = s.cpuPart :=
  State.lycCompare_cpuPart _

theorem State.writeLcdc_cpuPart (v : Byte) (s : State) : (s.writeLcdc v).cpuPart = s.cpuPart := by
  unfold State.writeLcdc
  dsimp only
  split
  · exact State.displayOff_cpuPart _
  · split <;> rfl

theorem State.lcdRegWrite_cpuPart (n : Nat) (v : Byte) (s : State) :
    (s.lcdRegWrite n v).cpuPart = s.cpuPart := by
  unfold State.lcdRegWrite
  split
  · exact State.writeLcdc_cpuPart v s
  case h_5 => exact State.lycCompare_cpuPart _
  all_goals rfl

theorem State.cartridgeWrite_cpuPart (a : Word) (v : Byte) (s : State) :
    (s.cartridgeWrite a v).cpuPart = s.cpuPart := by
  unfold State.cartridgeWrite
  split <;> rfl

theorem Component.write_cpuPart (a : Word) (v : Byte) (s : State) (c : Component) :
    (Component.write a v s c).cpuPart = s.cpuPart := by
  cases c <;> simp only [Component.write]
  · split <;> rfl
  · split
    · exact State.cartridgeWrite_cpuPart a v s
    · rfl
  · cases workRamPlace a.toNat <;> rfl
  · split <;> rfl
  · exact State.timerWrite_cpuPart _ v s
  · split
    · rfl
    · exact State.lcdRegWrite_cpuPart _ v s
  · split
    · rfl
    · split
      · rfl
      · split <;> rfl

theorem busWriteTo_cpuPart (cs : List Component) (a : Word) (v : Byte) (s : State) :
    (busWriteTo cs a v s).cpuPart = s.cpuPart := by
  induction cs generalizing s with
  | nil => rfl
  | cons c cs ih => exact (ih (Component.write a v s c)).trans (Component.write_cpuPart a v s c)

/-- A bus write leaves the CPU's part of the state alone. -/
theorem State.busWrite_cpuPart (a : Word) (v : Byte) (s : State) : (s.busWrite a v).cpuPart = s.cpuPart :=
  busWriteTo_cpuPart busComponents a v s

section
variable (a : Word) (v : Byte) (s : State)

@[simp] theorem State.busWrite_regs : (s.busWrite a v).regs = s.regs :=
  congrArg CpuPart.regs (s.busWrite_cpuPart a v)
@[simp] theorem State.busWrite_sp : (s.busWrite a v).sp = s.sp :=
  congrArg CpuPart.sp (s.busWrite_cpuPart a v)
@[simp] theorem State.busWrite_pc : (s.busWrite a v).pc = s.pc :=
  congrArg CpuPart.pc (s.busWrite_cpuPart a v)
@[simp] theorem State.busWrite_ime : (s.busWrite a v).ime = s.ime :=
  congrArg CpuPart.ime (s.busWrite_cpuPart a v)
@[simp] theorem State.busWrite_imePending : (s.busWrite a v).imePending = s.imePending :=
  congrArg CpuPart.imePending (s.busWrite_cpuPart a v)
@[simp] theorem State.busWrite_run : (s.busWrite a v).run = s.run :=
  congrArg CpuPart.run (s.busWrite_cpuPart a v)
@[simp] theorem State.busWrite_nextActive : (s.busWrite a v).nextActive = s.nextActive :=
  congrArg CpuPart.nextActive (s.busWrite_cpuPart a v)
@[simp] theorem State.busWrite_fault : (s.busWrite a v).fault = s.fault :=
  congrArg CpuPart.fault (s.busWrite_cpuPart a v)
@[simp] theorem State.busWrite_cycle : (s.busWrite a v).cycle = s.cycle :=
  congrArg CpuPart.cycle (s.busWrite_cpuPart a v)
@[simp] theorem State.busWrite_eiDelay : (s.busWrite a v).eiDelay = s.eiDelay :=
  congrArg CpuPart.eiDelay (s.busWrite_cpuPart a v)
@[simp] theorem State.busWrite_bootRom : (s.busWrite a v).bootRom = s.bootRom :=
  congrArg CpuPart.bootRom (s.busWrite_cpuPart a v)

end

/-! ### Memory stays canonical -/

theorem State.poke_wf {s : State} (h : s.mem.wf = true) (a : Nat) (v : Byte) : (s.poke a v).mem.wf = true :=
  Mem.write_wf h a v

theorem State.incrementTima_mem (s : State) : s.incrementTima.mem = s.mem := by
  unfold State.incrementTima
  split <;> rfl

theorem State.timerEdge_mem (d : Word) (tac : Byte) (s : State) : (s.timerEdge d tac).mem = s.mem := by
  unfold State.timerEdge
  dsimp only
  split
  · exact State.incrementTima_mem _
  · rfl

theorem State.timerWrite_mem (n : Nat) (v : Byte) (s : State) : (s.timerWrite n v).mem = s.mem := by
  unfold State.timerWrite
  split
  · exact State.timerEdge_mem _ _ s
  · rfl
  · rfl
  · exact State.timerEdge_mem _ _ s
  · rfl

theorem State.enterMode_mem (m : BitVec 2) (s : State) : (s.enterMode m).mem = s.mem := by
  unfold State.enterMode
  split <;> rfl

theorem State.lycCompare_mem (s : State) : s.lycCompare.mem = s.mem := by
  unfold State.lycCompare
  dsimp only
  split <;> rfl

theorem State.writeLcdc_mem (v : Byte) (s : State) : (s.writeLcdc v).mem = s.mem := by
  unfold State.writeLcdc
  dsimp only
  split
  · exact State.lycCompare_mem _
  · split <;> rfl

theorem State.lcdRegWrite_mem (n : Nat) (v : Byte) (s : State) : (s.lcdRegWrite n v).mem = s.mem := by
  unfold State.lcdRegWrite
  split
  · exact State.writeLcdc_mem v s
  case h_5 => exact State.lycCompare_mem _
  all_goals rfl

theorem Component.write_wf (a : Word) (v : Byte) {s : State} (h : s.mem.wf = true) (c : Component) :
    (Component.write a v s c).mem.wf = true := by
  cases c <;> simp only [Component.write]
  · split <;> exact h
  · split
    · unfold State.cartridgeWrite
      split <;> exact h
    · exact h
  · cases workRamPlace a.toNat with
    | none => exact h
    | some place => exact State.poke_wf h place v
  · split <;> exact h
  · rw [State.timerWrite_mem]
    exact h
  · split
    · exact State.poke_wf h _ v
    · rw [State.lcdRegWrite_mem]
      exact h
  · split
    · exact State.poke_wf h _ v
    · split
      · exact h
      · split <;> exact h

/-- A bus write keeps memory canonical. -/
theorem State.busWrite_wf (a : Word) (v : Byte) {s : State} (h : s.mem.wf = true) :
    (s.busWrite a v).mem.wf = true := by
  have key : ∀ (cs : List Component) (t : State), t.mem.wf = true → (busWriteTo cs a v t).mem.wf = true := by
    intro cs
    induction cs with
    | nil => exact fun t ht => ht
    | cons c cs ih => exact fun t ht => ih _ (Component.write_wf a v ht c)
  exact key busComponents s h

end Sys2Proof.Machine
end

