-- ==== Sys2Proof/Laws/Exec.lean ====
section
/-! SUPPORT. What one instruction can do: every instruction answers a next state, and on everything outside
the CPU its effect is that of at most two bus writes. -/

namespace Sys2Proof.Machine

/-- What the devices, the interrupt registers and memory hold, with the cycle and the parameters. -/
structure DevicePart where
  ie : Byte
  iflag : Byte
  timer : Timer
  lcd : Lcd
  dma : Dma
  bootRomEnabled : Bool
  cartridge : Cartridge
  joypad : List Config.JoyEvent
  mem : Mem
  cycle : Nat
  eiDelay : Bool
  bootRom : Option (Vector Byte 256)

/-- The devices' part of a state. -/
def State.devicePart (s : State) : DevicePart where
  ie := s.ie
  iflag := s.iflag
  timer := s.timer
  lcd := s.lcd
  dma := s.dma
  bootRomEnabled := s.bootRomEnabled
  cartridge := s.cartridge
  joypad := s.joypad
  mem := s.mem
  cycle := s.cycle
  eiDelay := s.eiDelay
  bootRom := s.bootRom

/-! ### SP replaced, everything else kept: an update of the CPU that a bus write does not see -/

theorem State.incrementTima_wraps {s : State} (h : s.timer.tima = 0xFF) :
    s.incrementTima = State.raise 2 { s with timer := { s.timer with tima := s.timer.tma } } := if_pos h

theorem State.incrementTima_counts {s : State} (h : s.timer.tima ≠ 0xFF) :
    s.incrementTima = { s with timer := { s.timer with tima := s.timer.tima + 1 } } := if_neg h

theorem State.incrementTima_setSp (x : Word) (s : State) :
    (s.setSp x).incrementTima = s.incrementTima.setSp x := by
  by_cases h : s.timer.tima = 0xFF
  · rw [State.incrementTima_wraps h, State.incrementTima_wraps (s := s.setSp x) h]
    rfl
  · rw [State.incrementTima_counts h, State.incrementTima_counts (s := s.setSp x) h]
    rfl

theorem State.timerEdge_falls {s : State} {dv : Word} {tac : Byte}
    (h : (timerSignal s.timer.div16 s.timer.tac && !timerSignal dv tac) = true) :
    s.timerEdge dv tac =
      State.incrementTima { s with timer := { s.timer with div16 := dv, tac := tac } } := if_pos h

theorem State.timerEdge_stays {s : State} {dv : Word} {tac : Byte}
    (h : ¬(timerSignal s.timer.div16 s.timer.tac && !timerSignal dv tac) = true) :
    s.timerEdge dv tac = { s with timer := { s.timer with div16 := dv, tac := tac } } := if_neg h

theorem State.timerEdge_setSp (x dv : Word) (tac : Byte) (s : State) :
    (s.setSp x).timerEdge dv tac = (s.timerEdge dv tac).setSp x := by
  by_cases h : (timerSignal s.timer.div16 s.timer.tac && !timerSignal dv tac) = true
  · rw [State.timerEdge_falls h, State.timerEdge_falls (s := s.setSp x) h]
    exact State.incrementTima_setSp x { s with timer := { s.timer with div16 := dv, tac := tac } }
  · rw [State.timerEdge_stays h, State.timerEdge_stays (s := s.setSp x) h]
    rfl

theorem State.lycCompare_raises {s : State}
    (h : (decide (s.lcd.ly = s.lcd.lyc) && s.lcd.stat.getLsbD 6) = true) :
    s.lycCompare = State.raise 1
      { s with lcd := { s.lcd with stat := withBit s.lcd.stat 2 (decide (s.lcd.ly = s.lcd.lyc)) } } := if_pos h

theorem State.lycCompare_silent {s : State}
    (h : ¬(decide (s.lcd.ly = s.lcd.lyc) && s.lcd.stat.getLsbD 6) = true) :
    s.lycCompare =
      { s with lcd := { s.lcd with stat := withBit s.lcd.stat 2 (decide (s.lcd.ly = s.lcd.lyc)) } } := if_neg h

theorem State.lycCompare_setSp (x : Word) (s : State) :
    (s.setSp x).lycCompare = s.lycCompare.setSp x := by
  by_cases h : (decide (s.lcd.ly = s.lcd.lyc) && s.lcd.stat.getLsbD 6) = true
  · rw [State.lycCompare_raises h, State.lycCompare_raises (s := s.setSp x) h]
    rfl
  · rw [State.lycCompare_silent h, State.lycCompare_silent (s := s.setSp x) h]
    rfl

theorem State.timerWrite_setSp (x : Word) (n : Nat) (v : Byte) (s : State) :
    (s.setSp x).timerWrite n v = (s.timerWrite n v).setSp x := by
  unfold State.timerWrite
  split
  · exact State.timerEdge_setSp x 0 s.timer.tac s
  · rfl
  · rfl
  · exact State.timerEdge_setSp x s.timer.div16 v s
  · rfl

theorem State.writeLcdc_off {s : State} {v : Byte} (h : (s.lcd.lcdc.getLsbD 7 && !v.getLsbD 7) = true) :
    s.writeLcdc v = State.displayOff { s with lcd := { s.lcd with lcdc := v } } := if_pos h

theorem State.writeLcdc_on {s : State} {v : Byte} (h : (!s.lcd.lcdc.getLsbD 7 && v.getLsbD 7) = true) :
    s.writeLcdc v = State.displayOn { s with lcd := { s.lcd with lcdc := v } } := by
  refine (if_neg ?_).trans (if_pos h)
  revert h
  cases s.lcd.lcdc.getLsbD 7 <;> cases v.getLsbD 7 <;> decide

theorem State.writeLcdc_same {s : State} {v : Byte} (h : s.lcd.lcdc.getLsbD 7 = v.getLsbD 7) :
    s.writeLcdc v = { s with lcd := { s.lcd with lcdc := v } } := by
  refine (if_neg ?_).trans (if_neg ?_) <;> rw [h] <;> cases v.getLsbD 7 <;> decide

theorem State.writeLcdc_setSp (x : Word) (v : Byte) (s : State) :
    (s.setSp x).writeLcdc v = (s.writeLcdc v).setSp x := by
  by_cases off : (s.lcd.lcdc.getLsbD 7 && !v.getLsbD 7) = true
  · rw [State.writeLcdc_off off, State.writeLcdc_off (s := s.setSp x) off]
    exact State.lycCompare_setSp x
      (State.setMode 0 { s with lcd := { s.lcd with lcdc := v, power := .off, ly := 0 } })
  · by_cases on : (!s.lcd.lcdc.getLsbD 7 && v.getLsbD 7) = true
    · rw [State.writeLcdc_on on, State.writeLcdc_on (s := s.setSp x) on]
      rfl
    · have same : s.lcd.lcdc.getLsbD 7 = v.getLsbD 7 := by
        revert off on
        cases s.lcd.lcdc.getLsbD 7 <;> cases v.getLsbD 7 <;> decide
      rw [State.writeLcdc_same same, State.writeLcdc_same (s := s.setSp x) same]
      rfl

theorem State.lcdRegWrite_setSp (x : Word) (n : Nat) (v : Byte) (s : State) :
    (s.setSp x).lcdRegWrite n v = (s.lcdRegWrite n v).setSp x := by
  unfold State.lcdRegWrite
  split
  case h_1 => exact State.writeLcdc_setSp x v s
  case h_5 => exact State.lycCompare_setSp x { s with lcd := { s.lcd with lyc := v } }
  all_goals rfl

theorem State.cartridgeWrite_setSp (x : Word) (a : Word) (v : Byte) (s : State) :
    (s.setSp x).cartridgeWrite a v = (s.cartridgeWrite a v).setSp x := by
  unfold State.cartridgeWrite
  rw [State.setSp_cartridge]
  cases s.cartridge <;> rfl

theorem Component.write_setSp (x : Word) (a : Word) (v : Byte) (s : State) (c : Component) :
    Component.write a v (s.setSp x) c = (Component.write a v s c).setSp x := by
  cases c <;> simp only [Component.write]
  · split <;> rfl
  · split
    · exact State.cartridgeWrite_setSp x a v s
    · rfl
  · cases workRamPlace a.toNat <;> rfl
  · split <;> rfl
  · exact State.timerWrite_setSp x _ v s
  · split
    · rfl
    · exact State.lcdRegWrite_setSp x _ v s
  · split
    · rfl
    · split
      · rfl
      · split <;> rfl

/-- A bus write does not see SP. -/
theorem State.busWrite_setSp (x : Word) (a : Word) (v : Byte) (s : State) :
    (s.setSp x).busWrite a v = (s.busWrite a v).setSp x := by
  have key : ∀ (cs : List Component) (t : State),
      busWriteTo cs a v (t.setSp x) = (busWriteTo cs a v t).setSp x := by
    intro cs
    induction cs with
    | nil => exact fun t => rfl
    | cons c cs ih =>
      intro t
      show busWriteTo cs a v (Component.write a v (t.setSp x) c) = _
      rw [Component.write_setSp]
      exact ih _
  exact key busComponents s

/-- Bus writes one after another. -/
def busWrites (ws : List (Word × Byte)) (s : State) : State := ws.foldl (fun t w => t.busWrite w.1 w.2) s

/-- What a push does: two bus writes, the high byte first, and SP lower by 2. -/
theorem State.pushWord_eq (v : Word) (s : State) :
    s.pushWord v =
      (busWrites [(s.sp - 2 + 1, hi8 v), (s.sp - 2, lo8 v)] s).setSp (s.sp - 2) := by
  simp only [State.pushWord, busWrites, List.foldl, State.setSp_sp, State.busWrite_setSp]

/-- On everything outside the CPU, `t` is what at most two bus writes make of `s`. -/
def Reaches (s t : State) : Prop :=
  ∃ ws : List (Word × Byte), ws.length ≤ 2 ∧ t.devicePart = (busWrites ws s).devicePart

theorem Reaches.none {s t : State} (h : t.devicePart = s.devicePart) : Reaches s t := ⟨[], by simp, h⟩

theorem Reaches.one {s t : State} (a : Word) (v : Byte) (h : t.devicePart = (s.busWrite a v).devicePart) :
    Reaches s t := ⟨[(a, v)], by simp, h⟩

/-- Updates of the CPU alone after the writes. -/
theorem Reaches.trans {s t u : State} (h : Reaches s t) (hu : u.devicePart = t.devicePart) : Reaches s u := by
  obtain ⟨ws, hl, ht⟩ := h
  exact ⟨ws, hl, hu.trans ht⟩

@[simp] theorem State.setReg_devicePart (r : Reg8) (v : Byte) (s : State) :
    (s.setReg r v).devicePart = s.devicePart := rfl
@[simp] theorem State.setPair_devicePart (hi lo : Reg8) (v : Word) (s : State) :
    (s.setPair hi lo v).devicePart = s.devicePart := rfl
@[simp] theorem State.setHl_devicePart (v : Word) (s : State) : (s.setHl v).devicePart = s.devicePart := rfl
@[simp] theorem State.setSp_devicePart (v : Word) (s : State) : (s.setSp v).devicePart = s.devicePart := rfl
@[simp] theorem State.dropWord_devicePart (s : State) : s.dropWord.devicePart = s.devicePart := rfl
@[simp] theorem State.setIme_devicePart (b : Bool) (s : State) : (s.setIme b).devicePart = s.devicePart := rfl
@[simp] theorem State.setImePending_devicePart (b : Bool) (s : State) :
    (s.setImePending b).devicePart = s.devicePart := rfl
@[simp] theorem State.haltRun_devicePart (s : State) : s.haltRun.devicePart = s.devicePart := rfl
@[simp] theorem State.raiseFault_devicePart (f : Fault) (s : State) :
    (s.raiseFault f).devicePart = s.devicePart := rfl
@[simp] theorem State.promote_devicePart (s : State) : s.promote.devicePart = s.devicePart := by
  unfold State.promote
  split <;> rfl
@[simp] theorem State.retire_devicePart (l c : Nat) (s : State) :
    (s.retire l c).devicePart = s.devicePart := State.promote_devicePart _
@[simp] theorem State.jump_devicePart (t : Word) (c : Nat) (s : State) :
    (s.jump t c).devicePart = s.devicePart := State.promote_devicePart _
@[simp] theorem State.setFlags_devicePart {w : Nat} (sel : Selector) (r : AluResult w) (s : State) :
    (s.setFlags sel r).devicePart = s.devicePart := rfl

/-! ### The operand writes -/

theorem Reaches.writeR8 (o : R8) (v : Byte) (s : State) : Reaches s (s.writeR8 o v) := by
  cases o
  case atHl => exact Reaches.one _ _ rfl
  all_goals exact Reaches.none rfl

theorem Reaches.writeR16 (o : R16) (v : Word) (s : State) : Reaches s (s.writeR16 o v) := by
  cases o <;> exact Reaches.none rfl

theorem Reaches.writeR16Stk (o : R16Stk) (v : Word) (s : State) : (s.writeR16Stk o v).devicePart = s.devicePart := by
  cases o <;> rfl

theorem Reaches.indUpdate (p : IndAddr) (s : State) : (s.indUpdate p).devicePart = s.devicePart := by
  cases p <;> rfl

theorem Reaches.pushWord (v : Word) (s : State) : Reaches s (s.pushWord v) :=
  ⟨[(s.sp - 2 + 1, hi8 v), (s.sp - 2, lo8 v)], by simp, by rw [State.pushWord_eq]; rfl⟩

/-! ### The shared operations -/

theorem loadR8_reaches (dst src : R8) (s : State) : Reaches s (loadR8 dst src s) :=
  (Reaches.writeR8 dst _ s).trans (State.retire_devicePart _ _ _)
theorem loadN8_reaches (dst : R8) (n : Byte) (s : State) : Reaches s (loadN8 dst n s) :=
  (Reaches.writeR8 dst _ s).trans (State.retire_devicePart _ _ _)
theorem loadIndirect_reaches (p : IndAddr) (s : State) : Reaches s (loadIndirect p s) :=
  Reaches.none (by simp [loadIndirect, Reaches.indUpdate])
theorem storeIndirect_reaches (p : IndAddr) (s : State) : Reaches s (storeIndirect p s) :=
  Reaches.one _ _ ((State.retire_devicePart _ _ _).trans (Reaches.indUpdate p _))
theorem loadAbsolute_reaches (n : Word) (s : State) : Reaches s (loadAbsolute n s) :=
  Reaches.none (by simp [loadAbsolute])
theorem storeAbsolute_reaches (n : Word) (s : State) : Reaches s (storeAbsolute n s) :=
  Reaches.one _ _ (State.retire_devicePart _ _ _)
theorem loadHighN8_reaches (n : Byte) (s : State) : Reaches s (loadHighN8 n s) :=
  Reaches.none (by simp [loadHighN8])
theorem storeHighN8_reaches (n : Byte) (s : State) : Reaches s (storeHighN8 n s) :=
  Reaches.one _ _ (State.retire_devicePart _ _ _)
theorem loadHighC_reaches (s : State) : Reaches s (loadHighC s) := Reaches.none (by simp [loadHighC])
theorem storeHighC_reaches (s : State) : Reaches s (storeHighC s) :=
  Reaches.one _ _ (State.retire_devicePart _ _ _)
theorem loadR16_reaches (o : R16) (n : Word) (s : State) : Reaches s (loadR16 o n s) :=
  (Reaches.writeR16 o n s).trans (State.retire_devicePart _ _ _)
theorem storeSp_reaches (n : Word) (s : State) : Reaches s (storeSp n s) :=
  ⟨[(n, lo8 s.sp), (n + 1, hi8 s.sp)], by simp, State.retire_devicePart _ _ _⟩
theorem loadSpHl_reaches (s : State) : Reaches s (loadSpHl s) := Reaches.none (by simp [loadSpHl])
theorem pushR16_reaches (o : R16Stk) (s : State) : Reaches s (pushR16 o s) :=
  (Reaches.pushWord _ s).trans (State.retire_devicePart _ _ _)
theorem popR16_reaches (o : R16Stk) (s : State) : Reaches s (popR16 o s) :=
  Reaches.none (by simp [popR16, Reaches.writeR16Stk])

theorem State.aluFinish_devicePart (k : AluOp) (r : AluResult 8) (s : State) :
    (s.aluFinish k r).devicePart = s.devicePart := by
  unfold State.aluFinish
  split <;> rfl
theorem aluR8_reaches (k : AluOp) (o : R8) (s : State) : Reaches s (aluR8 k o s) :=
  Reaches.none ((State.retire_devicePart _ _ _).trans (State.aluFinish_devicePart _ _ _))
theorem aluN8_reaches (k : AluOp) (n : Byte) (s : State) : Reaches s (aluN8 k n s) :=
  Reaches.none ((State.retire_devicePart _ _ _).trans (State.aluFinish_devicePart _ _ _))
theorem incrementR8_reaches (o : R8) (s : State) : Reaches s (incrementR8 o s) :=
  (Reaches.writeR8 o (aluAdd (s.readR8 o) 1 false).value s).trans (by simp [incrementR8])
theorem decrementR8_reaches (o : R8) (s : State) : Reaches s (decrementR8 o s) :=
  (Reaches.writeR8 o (aluSub (s.readR8 o) 1 false).value s).trans (by simp [decrementR8])
theorem decimalAdjust_reaches (s : State) : Reaches s (decimalAdjust s) :=
  Reaches.none (by simp [decimalAdjust])
theorem complementA_reaches (s : State) : Reaches s (complementA s) := Reaches.none (by simp [complementA])
theorem setCarry_reaches (s : State) : Reaches s (setCarry s) := Reaches.none (by simp [setCarry])
theorem complementCarry_reaches (s : State) : Reaches s (complementCarry s) :=
  Reaches.none (by simp [complementCarry])

theorem addHl_reaches (o : R16) (s : State) : Reaches s (addHl o s) := Reaches.none (by simp [addHl])
theorem incrementR16_reaches (o : R16) (s : State) : Reaches s (incrementR16 o s) :=
  (Reaches.writeR16 o _ s).trans (State.retire_devicePart _ _ _)
theorem decrementR16_reaches (o : R16) (s : State) : Reaches s (decrementR16 o s) :=
  (Reaches.writeR16 o _ s).trans (State.retire_devicePart _ _ _)
theorem addSp_reaches (e : Byte) (s : State) : Reaches s (addSp e s) := Reaches.none (by simp [addSp])
theorem loadHlSp_reaches (e : Byte) (s : State) : Reaches s (loadHlSp e s) :=
  Reaches.none (by simp [loadHlSp])

theorem rotateA_reaches (k : RotOp) (s : State) : Reaches s (rotateA k s) := Reaches.none (by simp [rotateA])
theorem rotateR8_reaches (k : RotOp) (o : R8) (s : State) : Reaches s (rotateR8 k o s) :=
  (Reaches.writeR8 o (k.result (s.readR8 o) s.carry).value s).trans (by simp [rotateR8])
theorem testR8_reaches (b : BitVec 3) (o : R8) (s : State) : Reaches s (testR8 b o s) :=
  Reaches.none (by simp [testR8])
theorem resetR8_reaches (b : BitVec 3) (o : R8) (s : State) : Reaches s (resetR8 b o s) :=
  (Reaches.writeR8 o _ s).trans (State.retire_devicePart _ _ _)
theorem setR8_reaches (b : BitVec 3) (o : R8) (s : State) : Reaches s (setR8 b o s) :=
  (Reaches.writeR8 o _ s).trans (State.retire_devicePart _ _ _)
theorem secondTable_reaches (op2 : Byte) (s : State) : Reaches s (secondTable op2 s) := by
  unfold secondTable
  split
  · exact rotateR8_reaches _ _ s
  · exact testR8_reaches _ _ s
  · exact resetR8_reaches _ _ s
  · exact setR8_reaches _ _ s

theorem jumpAbsolute_reaches (n : Word) (s : State) : Reaches s (jumpAbsolute n s) :=
  Reaches.none (by simp [jumpAbsolute])
theorem jumpAbsoluteIf_reaches (cc : Cond) (n : Word) (s : State) : Reaches s (jumpAbsoluteIf cc n s) := by
  unfold jumpAbsoluteIf
  split <;> exact Reaches.none (by simp)
theorem jumpHl_reaches (s : State) : Reaches s (jumpHl s) := Reaches.none (by simp [jumpHl])
theorem jumpRelative_reaches (e : Byte) (s : State) : Reaches s (jumpRelative e s) :=
  Reaches.none (by simp [jumpRelative])
theorem jumpRelativeIf_reaches (cc : Cond) (e : Byte) (s : State) : Reaches s (jumpRelativeIf cc e s) := by
  unfold jumpRelativeIf
  split <;> exact Reaches.none (by simp)
theorem callAbsolute_reaches (n : Word) (s : State) : Reaches s (callAbsolute n s) :=
  (Reaches.pushWord _ s).trans (State.jump_devicePart _ _ _)
theorem callIf_reaches (cc : Cond) (n : Word) (s : State) : Reaches s (callIf cc n s) := by
  unfold callIf
  split
  · exact callAbsolute_reaches n s
  · exact Reaches.none (by simp)
theorem returnCpu_reaches (s : State) : Reaches s (returnCpu s) := Reaches.none (by simp [returnCpu])
theorem returnIf_reaches (cc : Cond) (s : State) : Reaches s (returnIf cc s) := by
  unfold returnIf
  split <;> exact Reaches.none (by simp)
theorem returnInterrupt_reaches (s : State) : Reaches s (returnInterrupt s) :=
  Reaches.none (by simp [returnInterrupt, State.returnFromInterrupt])
theorem restart_reaches (t : Word) (s : State) : Reaches s (restart t s) :=
  (Reaches.pushWord _ s).trans (State.jump_devicePart _ _ _)

theorem noOperation_reaches (s : State) : Reaches s (noOperation s) := Reaches.none (by simp [noOperation])
theorem disableInterrupts_reaches (s : State) : Reaches s (disableInterrupts s) :=
  Reaches.none (by simp [disableInterrupts])
theorem enableInterrupts_reaches (s : State) : Reaches s (enableInterrupts s) := by
  unfold enableInterrupts
  split <;> exact Reaches.none rfl
theorem haltCpu_reaches (s : State) : Reaches s (haltCpu s) := Reaches.none (by simp [haltCpu])
theorem stopCpu_reaches (s : State) : Reaches s (stopCpu s) := Reaches.none rfl
theorem illegalByte_reaches (op : Byte) (s : State) : Reaches s (illegalByte op s) := Reaches.none rfl

/-! ### Every instruction is one of the shared operations -/

/-- The shared operations an instruction's meaning is one of, with their operands. -/
inductive SharedOp where
  | loadR16 (o : R16) (n : Word)
  | storeIndirect (p : IndAddr)
  | incrementR16 (o : R16)
  | incrementR8 (o : R8)
  | decrementR8 (o : R8)
  | loadN8 (dst : R8) (n : Byte)
  | rotateA (k : RotOp)
  | storeSp (n : Word)
  | addHl (o : R16)
  | loadIndirect (p : IndAddr)
  | decrementR16 (o : R16)
  | jumpRelative (e : Byte)
  | jumpRelativeIf (cc : Cond) (e : Byte)
  | loadR8 (dst : R8) (src : R8)
  | aluR8 (k : AluOp) (o : R8)
  | returnIf (cc : Cond)
  | popR16 (o : R16Stk)
  | jumpAbsoluteIf (cc : Cond) (n : Word)
  | jumpAbsolute (n : Word)
  | callIf (cc : Cond) (n : Word)
  | pushR16 (o : R16Stk)
  | aluN8 (k : AluOp) (n : Byte)
  | restart (target : Word)
  | secondTable (op2 : Byte)
  | callAbsolute (n : Word)
  | illegalByte (op : Byte)
  | storeHighN8 (n : Byte)
  | addSp (e : Byte)
  | storeAbsolute (n : Word)
  | loadHighN8 (n : Byte)
  | loadHlSp (e : Byte)
  | loadAbsolute (n : Word)
  | rotateR8 (k : RotOp) (o : R8)
  | testR8 (b : BitVec 3) (o : R8)
  | resetR8 (b : BitVec 3) (o : R8)
  | setR8 (b : BitVec 3) (o : R8)
  | decimalAdjust
  | complementA
  | setCarry
  | complementCarry
  | returnCpu
  | returnInterrupt
  | storeHighC
  | jumpHl
  | loadHighC
  | loadSpHl
  | noOperation
  | stopCpu
  | haltCpu
  | disableInterrupts
  | enableInterrupts

/-- What a shared operation does to the state. -/
def SharedOp.run (op : SharedOp) (s : State) : State :=
  match op with
  | .loadR16 o n => Machine.loadR16 o n s
  | .storeIndirect p => Machine.storeIndirect p s
  | .incrementR16 o => Machine.incrementR16 o s
  | .incrementR8 o => Machine.incrementR8 o s
  | .decrementR8 o => Machine.decrementR8 o s
  | .loadN8 dst n => Machine.loadN8 dst n s
  | .rotateA k => Machine.rotateA k s
  | .storeSp n => Machine.storeSp n s
  | .addHl o => Machine.addHl o s
  | .loadIndirect p => Machine.loadIndirect p s
  | .decrementR16 o => Machine.decrementR16 o s
  | .jumpRelative e => Machine.jumpRelative e s
  | .jumpRelativeIf cc e => Machine.jumpRelativeIf cc e s
  | .loadR8 dst src => Machine.loadR8 dst src s
  | .aluR8 k o => Machine.aluR8 k o s
  | .returnIf cc => Machine.returnIf cc s
  | .popR16 o => Machine.popR16 o s
  | .jumpAbsoluteIf cc n => Machine.jumpAbsoluteIf cc n s
  | .jumpAbsolute n => Machine.jumpAbsolute n s
  | .callIf cc n => Machine.callIf cc n s
  | .pushR16 o => Machine.pushR16 o s
  | .aluN8 k n => Machine.aluN8 k n s
  | .restart target => Machine.restart target s
  | .secondTable op2 => Machine.secondTable op2 s
  | .callAbsolute n => Machine.callAbsolute n s
  | .illegalByte op => Machine.illegalByte op s
  | .storeHighN8 n => Machine.storeHighN8 n s
  | .addSp e => Machine.addSp e s
  | .storeAbsolute n => Machine.storeAbsolute n s
  | .loadHighN8 n => Machine.loadHighN8 n s
  | .loadHlSp e => Machine.loadHlSp e s
  | .loadAbsolute n => Machine.loadAbsolute n s
  | .rotateR8 k o => Machine.rotateR8 k o s
  | .testR8 b o => Machine.testR8 b o s
  | .resetR8 b o => Machine.resetR8 b o s
  | .setR8 b o => Machine.setR8 b o s
  | .decimalAdjust => Machine.decimalAdjust s
  | .complementA => Machine.complementA s
  | .setCarry => Machine.setCarry s
  | .complementCarry => Machine.complementCarry s
  | .returnCpu => Machine.returnCpu s
  | .returnInterrupt => Machine.returnInterrupt s
  | .storeHighC => Machine.storeHighC s
  | .jumpHl => Machine.jumpHl s
  | .loadHighC => Machine.loadHighC s
  | .loadSpHl => Machine.loadSpHl s
  | .noOperation => Machine.noOperation s
  | .stopCpu => Machine.stopCpu s
  | .haltCpu => Machine.haltCpu s
  | .disableInterrupts => Machine.disableInterrupts s
  | .enableInterrupts => Machine.enableInterrupts s

/-- The shared operation an instruction is. -/
def sharedOp (i : Instr) : SharedOp :=
  match i with
  | .ldBcN16 n16 => .loadR16 .bc n16
  | .ldAtBcA => .storeIndirect .bc
  | .incBc => .incrementR16 .bc
  | .incB => .incrementR8 .b
  | .decB => .decrementR8 .b
  | .ldBN8 n8 => .loadN8 .b n8
  | .rlca => .rotateA .rlc
  | .ldAtN16Sp n16 => .storeSp n16
  | .addHlBc => .addHl .bc
  | .ldAAtBc => .loadIndirect .bc
  | .decBc => .decrementR16 .bc
  | .incC => .incrementR8 .c
  | .decC => .decrementR8 .c
  | .ldCN8 n8 => .loadN8 .c n8
  | .rrca => .rotateA .rrc
  | .ldDeN16 n16 => .loadR16 .de n16
  | .ldAtDeA => .storeIndirect .de
  | .incDe => .incrementR16 .de
  | .incD => .incrementR8 .d
  | .decD => .decrementR8 .d
  | .ldDN8 n8 => .loadN8 .d n8
  | .rla => .rotateA .rl
  | .jrE8 e8 => .jumpRelative e8
  | .addHlDe => .addHl .de
  | .ldAAtDe => .loadIndirect .de
  | .decDe => .decrementR16 .de
  | .incE => .incrementR8 .e
  | .decE => .decrementR8 .e
  | .ldEN8 n8 => .loadN8 .e n8
  | .rra => .rotateA .rr
  | .jrNzE8 e8 => .jumpRelativeIf .nz e8
  | .ldHlN16 n16 => .loadR16 .hl n16
  | .ldAtHliA => .storeIndirect .hlInc
  | .incHl => .incrementR16 .hl
  | .incH => .incrementR8 .h
  | .decH => .decrementR8 .h
  | .ldHN8 n8 => .loadN8 .h n8
  | .daa => .decimalAdjust
  | .jrZE8 e8 => .jumpRelativeIf .z e8
  | .addHlHl => .addHl .hl
  | .ldAAtHli => .loadIndirect .hlInc
  | .decHl => .decrementR16 .hl
  | .incL => .incrementR8 .l
  | .decL => .decrementR8 .l
  | .ldLN8 n8 => .loadN8 .l n8
  | .cpl => .complementA
  | .jrNcE8 e8 => .jumpRelativeIf .nc e8
  | .ldSpN16 n16 => .loadR16 .sp n16
  | .ldAtHldA => .storeIndirect .hlDec
  | .incSp => .incrementR16 .sp
  | .incAtHl => .incrementR8 .atHl
  | .decAtHl => .decrementR8 .atHl
  | .ldAtHlN8 n8 => .loadN8 .atHl n8
  | .scf => .setCarry
  | .jrCE8 e8 => .jumpRelativeIf .c e8
  | .addHlSp => .addHl .sp
  | .ldAAtHld => .loadIndirect .hlDec
  | .decSp => .decrementR16 .sp
  | .incA => .incrementR8 .a
  | .decA => .decrementR8 .a
  | .ldAN8 n8 => .loadN8 .a n8
  | .ccf => .complementCarry
  | .ldBB => .loadR8 .b .b
  | .ldBC => .loadR8 .b .c
  | .ldBD => .loadR8 .b .d
  | .ldBE => .loadR8 .b .e
  | .ldBH => .loadR8 .b .h
  | .ldBL => .loadR8 .b .l
  | .ldBAtHl => .loadR8 .b .atHl
  | .ldBA => .loadR8 .b .a
  | .ldCB => .loadR8 .c .b
  | .ldCC => .loadR8 .c .c
  | .ldCD => .loadR8 .c .d
  | .ldCE => .loadR8 .c .e
  | .ldCH => .loadR8 .c .h
  | .ldCL => .loadR8 .c .l
  | .ldCAtHl => .loadR8 .c .atHl
  | .ldCA => .loadR8 .c .a
  | .ldDB => .loadR8 .d .b
  | .ldDC => .loadR8 .d .c
  | .ldDD => .loadR8 .d .d
  | .ldDE => .loadR8 .d .e
  | .ldDH => .loadR8 .d .h
  | .ldDL => .loadR8 .d .l
  | .ldDAtHl => .loadR8 .d .atHl
  | .ldDA => .loadR8 .d .a
  | .ldEB => .loadR8 .e .b
  | .ldEC => .loadR8 .e .c
  | .ldED => .loadR8 .e .d
  | .ldEE => .loadR8 .e .e
  | .ldEH => .loadR8 .e .h
  | .ldEL => .loadR8 .e .l
  | .ldEAtHl => .loadR8 .e .atHl
  | .ldEA => .loadR8 .e .a
  | .ldHB => .loadR8 .h .b
  | .ldHC => .loadR8 .h .c
  | .ldHD => .loadR8 .h .d
  | .ldHE => .loadR8 .h .e
  | .ldHH => .loadR8 .h .h
  | .ldHL => .loadR8 .h .l
  | .ldHAtHl => .loadR8 .h .atHl
  | .ldHA => .loadR8 .h .a
  | .ldLB => .loadR8 .l .b
  | .ldLC => .loadR8 .l .c
  | .ldLD => .loadR8 .l .d
  | .ldLE => .loadR8 .l .e
  | .ldLH => .loadR8 .l .h
  | .ldLL => .loadR8 .l .l
  | .ldLAtHl => .loadR8 .l .atHl
  | .ldLA => .loadR8 .l .a
  | .ldAtHlB => .loadR8 .atHl .b
  | .ldAtHlC => .loadR8 .atHl .c
  | .ldAtHlD => .loadR8 .atHl .d
  | .ldAtHlE => .loadR8 .atHl .e
  | .ldAtHlH => .loadR8 .atHl .h
  | .ldAtHlL => .loadR8 .atHl .l
  | .ldAtHlA => .loadR8 .atHl .a
  | .ldAB => .loadR8 .a .b
  | .ldAC => .loadR8 .a .c
  | .ldAD => .loadR8 .a .d
  | .ldAE => .loadR8 .a .e
  | .ldAH => .loadR8 .a .h
  | .ldAL => .loadR8 .a .l
  | .ldAAtHl => .loadR8 .a .atHl
  | .ldAA => .loadR8 .a .a
  | .addAB => .aluR8 .add .b
  | .addAC => .aluR8 .add .c
  | .addAD => .aluR8 .add .d
  | .addAE => .aluR8 .add .e
  | .addAH => .aluR8 .add .h
  | .addAL => .aluR8 .add .l
  | .addAAtHl => .aluR8 .add .atHl
  | .addAA => .aluR8 .add .a
  | .adcAB => .aluR8 .adc .b
  | .adcAC => .aluR8 .adc .c
  | .adcAD => .aluR8 .adc .d
  | .adcAE => .aluR8 .adc .e
  | .adcAH => .aluR8 .adc .h
  | .adcAL => .aluR8 .adc .l
  | .adcAAtHl => .aluR8 .adc .atHl
  | .adcAA => .aluR8 .adc .a
  | .subAB => .aluR8 .sub .b
  | .subAC => .aluR8 .sub .c
  | .subAD => .aluR8 .sub .d
  | .subAE => .aluR8 .sub .e
  | .subAH => .aluR8 .sub .h
  | .subAL => .aluR8 .sub .l
  | .subAAtHl => .aluR8 .sub .atHl
  | .subAA => .aluR8 .sub .a
  | .sbcAB => .aluR8 .sbc .b
  | .sbcAC => .aluR8 .sbc .c
  | .sbcAD => .aluR8 .sbc .d
  | .sbcAE => .aluR8 .sbc .e
  | .sbcAH => .aluR8 .sbc .h
  | .sbcAL => .aluR8 .sbc .l
  | .sbcAAtHl => .aluR8 .sbc .atHl
  | .sbcAA => .aluR8 .sbc .a
  | .andAB => .aluR8 .and .b
  | .andAC => .aluR8 .and .c
  | .andAD => .aluR8 .and .d
  | .andAE => .aluR8 .and .e
  | .andAH => .aluR8 .and .h
  | .andAL => .aluR8 .and .l
  | .andAAtHl => .aluR8 .and .atHl
  | .andAA => .aluR8 .and .a
  | .xorAB => .aluR8 .xor .b
  | .xorAC => .aluR8 .xor .c
  | .xorAD => .aluR8 .xor .d
  | .xorAE => .aluR8 .xor .e
  | .xorAH => .aluR8 .xor .h
  | .xorAL => .aluR8 .xor .l
  | .xorAAtHl => .aluR8 .xor .atHl
  | .xorAA => .aluR8 .xor .a
  | .orAB => .aluR8 .or .b
  | .orAC => .aluR8 .or .c
  | .orAD => .aluR8 .or .d
  | .orAE => .aluR8 .or .e
  | .orAH => .aluR8 .or .h
  | .orAL => .aluR8 .or .l
  | .orAAtHl => .aluR8 .or .atHl
  | .orAA => .aluR8 .or .a
  | .cpAB => .aluR8 .cp .b
  | .cpAC => .aluR8 .cp .c
  | .cpAD => .aluR8 .cp .d
  | .cpAE => .aluR8 .cp .e
  | .cpAH => .aluR8 .cp .h
  | .cpAL => .aluR8 .cp .l
  | .cpAAtHl => .aluR8 .cp .atHl
  | .cpAA => .aluR8 .cp .a
  | .retNz => .returnIf .nz
  | .popBc => .popR16 .bc
  | .jpNzN16 n16 => .jumpAbsoluteIf .nz n16
  | .jpN16 n16 => .jumpAbsolute n16
  | .callNzN16 n16 => .callIf .nz n16
  | .pushBc => .pushR16 .bc
  | .addAN8 n8 => .aluN8 .add n8
  | .rst00 => .restart 0x00
  | .retZ => .returnIf .z
  | .ret => .returnCpu
  | .jpZN16 n16 => .jumpAbsoluteIf .z n16
  | .prefixCb op2 => .secondTable op2
  | .callZN16 n16 => .callIf .z n16
  | .callN16 n16 => .callAbsolute n16
  | .adcAN8 n8 => .aluN8 .adc n8
  | .rst08 => .restart 0x08
  | .retNc => .returnIf .nc
  | .popDe => .popR16 .de
  | .jpNcN16 n16 => .jumpAbsoluteIf .nc n16
  | .illegal op => .illegalByte op
  | .callNcN16 n16 => .callIf .nc n16
  | .pushDe => .pushR16 .de
  | .subAN8 n8 => .aluN8 .sub n8
  | .rst10 => .restart 0x10
  | .retC => .returnIf .c
  | .reti => .returnInterrupt
  | .jpCN16 n16 => .jumpAbsoluteIf .c n16
  | .callCN16 n16 => .callIf .c n16
  | .sbcAN8 n8 => .aluN8 .sbc n8
  | .rst18 => .restart 0x18
  | .ldhAtN8A n8 => .storeHighN8 n8
  | .popHl => .popR16 .hl
  | .ldhAtCA => .storeHighC
  | .pushHl => .pushR16 .hl
  | .andAN8 n8 => .aluN8 .and n8
  | .rst20 => .restart 0x20
  | .addSpE8 e8 => .addSp e8
  | .jpHl => .jumpHl
  | .ldAtN16A n16 => .storeAbsolute n16
  | .xorAN8 n8 => .aluN8 .xor n8
  | .rst28 => .restart 0x28
  | .ldhAAtN8 n8 => .loadHighN8 n8
  | .popAf => .popR16 .af
  | .ldhAAtC => .loadHighC
  | .pushAf => .pushR16 .af
  | .orAN8 n8 => .aluN8 .or n8
  | .rst30 => .restart 0x30
  | .ldHlSpE8 e8 => .loadHlSp e8
  | .ldSpHl => .loadSpHl
  | .ldAAtN16 n16 => .loadAbsolute n16
  | .cpAN8 n8 => .aluN8 .cp n8
  | .rst38 => .restart 0x38
  | .rlcB => .rotateR8 .rlc .b
  | .rlcC => .rotateR8 .rlc .c
  | .rlcD => .rotateR8 .rlc .d
  | .rlcE => .rotateR8 .rlc .e
  | .rlcH => .rotateR8 .rlc .h
  | .rlcL => .rotateR8 .rlc .l
  | .rlcAtHl => .rotateR8 .rlc .atHl
  | .rlcA => .rotateR8 .rlc .a
  | .rrcB => .rotateR8 .rrc .b
  | .rrcC => .rotateR8 .rrc .c
  | .rrcD => .rotateR8 .rrc .d
  | .rrcE => .rotateR8 .rrc .e
  | .rrcH => .rotateR8 .rrc .h
  | .rrcL => .rotateR8 .rrc .l
  | .rrcAtHl => .rotateR8 .rrc .atHl
  | .rrcA => .rotateR8 .rrc .a
  | .rlB => .rotateR8 .rl .b
  | .rlC => .rotateR8 .rl .c
  | .rlD => .rotateR8 .rl .d
  | .rlE => .rotateR8 .rl .e
  | .rlH => .rotateR8 .rl .h
  | .rlL => .rotateR8 .rl .l
  | .rlAtHl => .rotateR8 .rl .atHl
  | .rlA => .rotateR8 .rl .a
  | .rrB => .rotateR8 .rr .b
  | .rrC => .rotateR8 .rr .c
  | .rrD => .rotateR8 .rr .d
  | .rrE => .rotateR8 .rr .e
  | .rrH => .rotateR8 .rr .h
  | .rrL => .rotateR8 .rr .l
  | .rrAtHl => .rotateR8 .rr .atHl
  | .rrA => .rotateR8 .rr .a
  | .slaB => .rotateR8 .sla .b
  | .slaC => .rotateR8 .sla .c
  | .slaD => .rotateR8 .sla .d
  | .slaE => .rotateR8 .sla .e
  | .slaH => .rotateR8 .sla .h
  | .slaL => .rotateR8 .sla .l
  | .slaAtHl => .rotateR8 .sla .atHl
  | .slaA => .rotateR8 .sla .a
  | .sraB => .rotateR8 .sra .b
  | .sraC => .rotateR8 .sra .c
  | .sraD => .rotateR8 .sra .d
  | .sraE => .rotateR8 .sra .e
  | .sraH => .rotateR8 .sra .h
  | .sraL => .rotateR8 .sra .l
  | .sraAtHl => .rotateR8 .sra .atHl
  | .sraA => .rotateR8 .sra .a
  | .swapB => .rotateR8 .swap .b
  | .swapC => .rotateR8 .swap .c
  | .swapD => .rotateR8 .swap .d
  | .swapE => .rotateR8 .swap .e
  | .swapH => .rotateR8 .swap .h
  | .swapL => .rotateR8 .swap .l
  | .swapAtHl => .rotateR8 .swap .atHl
  | .swapA => .rotateR8 .swap .a
  | .srlB => .rotateR8 .srl .b
  | .srlC => .rotateR8 .srl .c
  | .srlD => .rotateR8 .srl .d
  | .srlE => .rotateR8 .srl .e
  | .srlH => .rotateR8 .srl .h
  | .srlL => .rotateR8 .srl .l
  | .srlAtHl => .rotateR8 .srl .atHl
  | .srlA => .rotateR8 .srl .a
  | .bit0B => .testR8 0 .b
  | .bit0C => .testR8 0 .c
  | .bit0D => .testR8 0 .d
  | .bit0E => .testR8 0 .e
  | .bit0H => .testR8 0 .h
  | .bit0L => .testR8 0 .l
  | .bit0AtHl => .testR8 0 .atHl
  | .bit0A => .testR8 0 .a
  | .bit1B => .testR8 1 .b
  | .bit1C => .testR8 1 .c
  | .bit1D => .testR8 1 .d
  | .bit1E => .testR8 1 .e
  | .bit1H => .testR8 1 .h
  | .bit1L => .testR8 1 .l
  | .bit1AtHl => .testR8 1 .atHl
  | .bit1A => .testR8 1 .a
  | .bit2B => .testR8 2 .b
  | .bit2C => .testR8 2 .c
  | .bit2D => .testR8 2 .d
  | .bit2E => .testR8 2 .e
  | .bit2H => .testR8 2 .h
  | .bit2L => .testR8 2 .l
  | .bit2AtHl => .testR8 2 .atHl
  | .bit2A => .testR8 2 .a
  | .bit3B => .testR8 3 .b
  | .bit3C => .testR8 3 .c
  | .bit3D => .testR8 3 .d
  | .bit3E => .testR8 3 .e
  | .bit3H => .testR8 3 .h
  | .bit3L => .testR8 3 .l
  | .bit3AtHl => .testR8 3 .atHl
  | .bit3A => .testR8 3 .a
  | .bit4B => .testR8 4 .b
  | .bit4C => .testR8 4 .c
  | .bit4D => .testR8 4 .d
  | .bit4E => .testR8 4 .e
  | .bit4H => .testR8 4 .h
  | .bit4L => .testR8 4 .l
  | .bit4AtHl => .testR8 4 .atHl
  | .bit4A => .testR8 4 .a
  | .bit5B => .testR8 5 .b
  | .bit5C => .testR8 5 .c
  | .bit5D => .testR8 5 .d
  | .bit5E => .testR8 5 .e
  | .bit5H => .testR8 5 .h
  | .bit5L => .testR8 5 .l
  | .bit5AtHl => .testR8 5 .atHl
  | .bit5A => .testR8 5 .a
  | .bit6B => .testR8 6 .b
  | .bit6C => .testR8 6 .c
  | .bit6D => .testR8 6 .d
  | .bit6E => .testR8 6 .e
  | .bit6H => .testR8 6 .h
  | .bit6L => .testR8 6 .l
  | .bit6AtHl => .testR8 6 .atHl
  | .bit6A => .testR8 6 .a
  | .bit7B => .testR8 7 .b
  | .bit7C => .testR8 7 .c
  | .bit7D => .testR8 7 .d
  | .bit7E => .testR8 7 .e
  | .bit7H => .testR8 7 .h
  | .bit7L => .testR8 7 .l
  | .bit7AtHl => .testR8 7 .atHl
  | .bit7A => .testR8 7 .a
  | .res0B => .resetR8 0 .b
  | .res0C => .resetR8 0 .c
  | .res0D => .resetR8 0 .d
  | .res0E => .resetR8 0 .e
  | .res0H => .resetR8 0 .h
  | .res0L => .resetR8 0 .l
  | .res0AtHl => .resetR8 0 .atHl
  | .res0A => .resetR8 0 .a
  | .res1B => .resetR8 1 .b
  | .res1C => .resetR8 1 .c
  | .res1D => .resetR8 1 .d
  | .res1E => .resetR8 1 .e
  | .res1H => .resetR8 1 .h
  | .res1L => .resetR8 1 .l
  | .res1AtHl => .resetR8 1 .atHl
  | .res1A => .resetR8 1 .a
  | .res2B => .resetR8 2 .b
  | .res2C => .resetR8 2 .c
  | .res2D => .resetR8 2 .d
  | .res2E => .resetR8 2 .e
  | .res2H => .resetR8 2 .h
  | .res2L => .resetR8 2 .l
  | .res2AtHl => .resetR8 2 .atHl
  | .res2A => .resetR8 2 .a
  | .res3B => .resetR8 3 .b
  | .res3C => .resetR8 3 .c
  | .res3D => .resetR8 3 .d
  | .res3E => .resetR8 3 .e
  | .res3H => .resetR8 3 .h
  | .res3L => .resetR8 3 .l
  | .res3AtHl => .resetR8 3 .atHl
  | .res3A => .resetR8 3 .a
  | .res4B => .resetR8 4 .b
  | .res4C => .resetR8 4 .c
  | .res4D => .resetR8 4 .d
  | .res4E => .resetR8 4 .e
  | .res4H => .resetR8 4 .h
  | .res4L => .resetR8 4 .l
  | .res4AtHl => .resetR8 4 .atHl
  | .res4A => .resetR8 4 .a
  | .res5B => .resetR8 5 .b
  | .res5C => .resetR8 5 .c
  | .res5D => .resetR8 5 .d
  | .res5E => .resetR8 5 .e
  | .res5H => .resetR8 5 .h
  | .res5L => .resetR8 5 .l
  | .res5AtHl => .resetR8 5 .atHl
  | .res5A => .resetR8 5 .a
  | .res6B => .resetR8 6 .b
  | .res6C => .resetR8 6 .c
  | .res6D => .resetR8 6 .d
  | .res6E => .resetR8 6 .e
  | .res6H => .resetR8 6 .h
  | .res6L => .resetR8 6 .l
  | .res6AtHl => .resetR8 6 .atHl
  | .res6A => .resetR8 6 .a
  | .res7B => .resetR8 7 .b
  | .res7C => .resetR8 7 .c
  | .res7D => .resetR8 7 .d
  | .res7E => .resetR8 7 .e
  | .res7H => .resetR8 7 .h
  | .res7L => .resetR8 7 .l
  | .res7AtHl => .resetR8 7 .atHl
  | .res7A => .resetR8 7 .a
  | .set0B => .setR8 0 .b
  | .set0C => .setR8 0 .c
  | .set0D => .setR8 0 .d
  | .set0E => .setR8 0 .e
  | .set0H => .setR8 0 .h
  | .set0L => .setR8 0 .l
  | .set0AtHl => .setR8 0 .atHl
  | .set0A => .setR8 0 .a
  | .set1B => .setR8 1 .b
  | .set1C => .setR8 1 .c
  | .set1D => .setR8 1 .d
  | .set1E => .setR8 1 .e
  | .set1H => .setR8 1 .h
  | .set1L => .setR8 1 .l
  | .set1AtHl => .setR8 1 .atHl
  | .set1A => .setR8 1 .a
  | .set2B => .setR8 2 .b
  | .set2C => .setR8 2 .c
  | .set2D => .setR8 2 .d
  | .set2E => .setR8 2 .e
  | .set2H => .setR8 2 .h
  | .set2L => .setR8 2 .l
  | .set2AtHl => .setR8 2 .atHl
  | .set2A => .setR8 2 .a
  | .set3B => .setR8 3 .b
  | .set3C => .setR8 3 .c
  | .set3D => .setR8 3 .d
  | .set3E => .setR8 3 .e
  | .set3H => .setR8 3 .h
  | .set3L => .setR8 3 .l
  | .set3AtHl => .setR8 3 .atHl
  | .set3A => .setR8 3 .a
  | .set4B => .setR8 4 .b
  | .set4C => .setR8 4 .c
  | .set4D => .setR8 4 .d
  | .set4E => .setR8 4 .e
  | .set4H => .setR8 4 .h
  | .set4L => .setR8 4 .l
  | .set4AtHl => .setR8 4 .atHl
  | .set4A => .setR8 4 .a
  | .set5B => .setR8 5 .b
  | .set5C => .setR8 5 .c
  | .set5D => .setR8 5 .d
  | .set5E => .setR8 5 .e
  | .set5H => .setR8 5 .h
  | .set5L => .setR8 5 .l
  | .set5AtHl => .setR8 5 .atHl
  | .set5A => .setR8 5 .a
  | .set6B => .setR8 6 .b
  | .set6C => .setR8 6 .c
  | .set6D => .setR8 6 .d
  | .set6E => .setR8 6 .e
  | .set6H => .setR8 6 .h
  | .set6L => .setR8 6 .l
  | .set6AtHl => .setR8 6 .atHl
  | .set6A => .setR8 6 .a
  | .set7B => .setR8 7 .b
  | .set7C => .setR8 7 .c
  | .set7D => .setR8 7 .d
  | .set7E => .setR8 7 .e
  | .set7H => .setR8 7 .h
  | .set7L => .setR8 7 .l
  | .set7AtHl => .setR8 7 .atHl
  | .set7A => .setR8 7 .a
  | .nop => .noOperation
  | .stop => .stopCpu
  | .halt => .haltCpu
  | .di => .disableInterrupts
  | .ei => .enableInterrupts

/-- Every instruction answers a next state: what its shared operation makes of the state. -/
theorem exec_sharedOp (i : Instr) (s : State) : exec i s = .next ((sharedOp i).run s) := by
  cases i <;> rfl

theorem SharedOp.run_reaches (op : SharedOp) (s : State) : Reaches s (op.run s) := by
  cases op with
  | loadR16 o n => exact loadR16_reaches o n s
  | storeIndirect p => exact storeIndirect_reaches p s
  | incrementR16 o => exact incrementR16_reaches o s
  | incrementR8 o => exact incrementR8_reaches o s
  | decrementR8 o => exact decrementR8_reaches o s
  | loadN8 dst n => exact loadN8_reaches dst n s
  | rotateA k => exact rotateA_reaches k s
  | storeSp n => exact storeSp_reaches n s
  | addHl o => exact addHl_reaches o s
  | loadIndirect p => exact loadIndirect_reaches p s
  | decrementR16 o => exact decrementR16_reaches o s
  | jumpRelative e => exact jumpRelative_reaches e s
  | jumpRelativeIf cc e => exact jumpRelativeIf_reaches cc e s
  | loadR8 dst src => exact loadR8_reaches dst src s
  | aluR8 k o => exact aluR8_reaches k o s
  | returnIf cc => exact returnIf_reaches cc s
  | popR16 o => exact popR16_reaches o s
  | jumpAbsoluteIf cc n => exact jumpAbsoluteIf_reaches cc n s
  | jumpAbsolute n => exact jumpAbsolute_reaches n s
  | callIf cc n => exact callIf_reaches cc n s
  | pushR16 o => exact pushR16_reaches o s
  | aluN8 k n => exact aluN8_reaches k n s
  | restart target => exact restart_reaches target s
  | secondTable op2 => exact secondTable_reaches op2 s
  | callAbsolute n => exact callAbsolute_reaches n s
  | illegalByte op => exact illegalByte_reaches op s
  | storeHighN8 n => exact storeHighN8_reaches n s
  | addSp e => exact addSp_reaches e s
  | storeAbsolute n => exact storeAbsolute_reaches n s
  | loadHighN8 n => exact loadHighN8_reaches n s
  | loadHlSp e => exact loadHlSp_reaches e s
  | loadAbsolute n => exact loadAbsolute_reaches n s
  | rotateR8 k o => exact rotateR8_reaches k o s
  | testR8 b o => exact testR8_reaches b o s
  | resetR8 b o => exact resetR8_reaches b o s
  | setR8 b o => exact setR8_reaches b o s
  | decimalAdjust => exact decimalAdjust_reaches s
  | complementA => exact complementA_reaches s
  | setCarry => exact setCarry_reaches s
  | complementCarry => exact complementCarry_reaches s
  | returnCpu => exact returnCpu_reaches s
  | returnInterrupt => exact returnInterrupt_reaches s
  | storeHighC => exact storeHighC_reaches s
  | jumpHl => exact jumpHl_reaches s
  | loadHighC => exact loadHighC_reaches s
  | loadSpHl => exact loadSpHl_reaches s
  | noOperation => exact noOperation_reaches s
  | stopCpu => exact stopCpu_reaches s
  | haltCpu => exact haltCpu_reaches s
  | disableInterrupts => exact disableInterrupts_reaches s
  | enableInterrupts => exact enableInterrupts_reaches s

/-- Every instruction answers a next state, and outside the CPU its effect is that of at most two bus
writes. -/
theorem exec_reaches (i : Instr) (s : State) : ∃ t, exec i s = .next t ∧ Reaches s t :=
  ⟨_, exec_sharedOp i s, SharedOp.run_reaches _ s⟩

end Sys2Proof.Machine
end

