-- ==== Sys2Proof/Laws/Step.lean ====
section
/-! SUPPORT. What a cycle can do: the timer's and the LCD controller's steps leave the CPU's part of the state
alone and keep memory canonical, and a step is one of three things. -/

namespace Sys2Proof.Machine

/-! ### The device steps leave the CPU's part alone -/

theorem timerStep_cpuPart (s : State) : (timerStep s).cpuPart = s.cpuPart := State.timerEdge_cpuPart _ _ s

theorem dmaStep_cpuPart (s : State) : (dmaStep s).cpuPart = s.cpuPart := by
  unfold dmaStep
  split <;> rfl

theorem State.startLine_cpuPart (ln : Nat) (s : State) : (s.startLine ln).cpuPart = s.cpuPart := by
  have h0 : ((s.setLy ln).lycCompare).cpuPart = s.cpuPart := (s.setLy ln).lycCompare_cpuPart
  have h1 : ∀ t : State, (if ln = 0 then t.clearWinLine else t).cpuPart = t.cpuPart := fun t => by split <;> rfl
  have h2 : ∀ t : State, (if ln < Config.visibleLines then t.enterMode 2 else t).cpuPart = t.cpuPart := fun t => by
    split
    · exact t.enterMode_cpuPart 2
    · rfl
  unfold State.startLine
  dsimp only
  split
  · exact (State.enterMode_cpuPart 1 _).trans ((h2 _).trans ((h1 _).trans h0))
  · exact (h2 _).trans ((h1 _).trans h0)

theorem State.ppuStep_cpuPart (s : State) : s.ppuStep.cpuPart = s.cpuPart := by
  unfold State.ppuStep
  dsimp only
  split
  · exact s.startLine_cpuPart _
  · split
    · exact State.enterMode_cpuPart 3 _
    · split
      · exact s.enterMode_cpuPart 0
      · rfl

/-- What the LCD controller's step is, by the display's state. -/
theorem lcdStep_cases (s : State) :
    (s.lcd.power = .off ∧ lcdStep s = dmaStep s) ∨ (s.lcd.power = .on ∧ lcdStep s = (dmaStep s).ppuStep) := by
  have h : (dmaStep s).lcd = s.lcd := by unfold dmaStep; split <;> rfl
  unfold lcdStep
  dsimp only
  rw [h]
  cases s.lcd.power
  · exact .inl ⟨rfl, rfl⟩
  · exact .inr ⟨rfl, rfl⟩

theorem lcdStep_cpuPart (s : State) : (lcdStep s).cpuPart = s.cpuPart := by
  obtain ⟨-, h⟩ | ⟨-, h⟩ := lcdStep_cases s <;> rw [h]
  · exact dmaStep_cpuPart s
  · exact (State.ppuStep_cpuPart _).trans (dmaStep_cpuPart s)

/-- The timer's and the LCD controller's steps leave the CPU's part of the state alone. -/
theorem deviceStep_cpuPart (s : State) : (deviceStep s).cpuPart = s.cpuPart :=
  (lcdStep_cpuPart _).trans (timerStep_cpuPart s)

section
variable (s : State)

@[simp] theorem deviceStep_regs : (deviceStep s).regs = s.regs := congrArg CpuPart.regs (deviceStep_cpuPart s)
@[simp] theorem deviceStep_sp : (deviceStep s).sp = s.sp := congrArg CpuPart.sp (deviceStep_cpuPart s)
@[simp] theorem deviceStep_pc : (deviceStep s).pc = s.pc := congrArg CpuPart.pc (deviceStep_cpuPart s)
@[simp] theorem deviceStep_ime : (deviceStep s).ime = s.ime := congrArg CpuPart.ime (deviceStep_cpuPart s)
@[simp] theorem deviceStep_imePending : (deviceStep s).imePending = s.imePending :=
  congrArg CpuPart.imePending (deviceStep_cpuPart s)
@[simp] theorem deviceStep_run : (deviceStep s).run = s.run := congrArg CpuPart.run (deviceStep_cpuPart s)
@[simp] theorem deviceStep_nextActive : (deviceStep s).nextActive = s.nextActive :=
  congrArg CpuPart.nextActive (deviceStep_cpuPart s)
@[simp] theorem deviceStep_fault : (deviceStep s).fault = s.fault := congrArg CpuPart.fault (deviceStep_cpuPart s)
@[simp] theorem deviceStep_cycle : (deviceStep s).cycle = s.cycle := congrArg CpuPart.cycle (deviceStep_cpuPart s)
@[simp] theorem deviceStep_eiDelay : (deviceStep s).eiDelay = s.eiDelay :=
  congrArg CpuPart.eiDelay (deviceStep_cpuPart s)
@[simp] theorem deviceStep_bootRom : (deviceStep s).bootRom = s.bootRom :=
  congrArg CpuPart.bootRom (deviceStep_cpuPart s)

end

/-! ### Memory stays canonical -/

theorem timerStep_mem (s : State) : (timerStep s).mem = s.mem := s.timerEdge_mem _ _

theorem dmaStep_wf {s : State} (h : s.mem.wf = true) : (dmaStep s).mem.wf = true := by
  unfold dmaStep
  split
  · exact State.poke_wf h _ _
  · exact h

theorem State.startLine_mem (ln : Nat) (s : State) : (s.startLine ln).mem = s.mem := by
  have h0 : ((s.setLy ln).lycCompare).mem = s.mem := (s.setLy ln).lycCompare_mem
  have h1 : ∀ t : State, (if ln = 0 then t.clearWinLine else t).mem = t.mem := fun t => by split <;> rfl
  have h2 : ∀ t : State, (if ln < Config.visibleLines then t.enterMode 2 else t).mem = t.mem := fun t => by
    split
    · exact t.enterMode_mem 2
    · rfl
  unfold State.startLine
  dsimp only
  split
  · exact (State.enterMode_mem 1 _).trans ((h2 _).trans ((h1 _).trans h0))
  · exact (h2 _).trans ((h1 _).trans h0)

theorem State.ppuStep_mem (s : State) : s.ppuStep.mem = s.mem := by
  unfold State.ppuStep
  dsimp only
  split
  · exact s.startLine_mem _
  · split
    · exact State.enterMode_mem 3 _
    · split
      · exact s.enterMode_mem 0
      · rfl

theorem deviceStep_wf {s : State} (h : s.mem.wf = true) : (deviceStep s).mem.wf = true := by
  have ht : (timerStep s).mem.wf = true := by rw [timerStep_mem]; exact h
  obtain ⟨-, hs⟩ | ⟨-, hs⟩ := lcdStep_cases (timerStep s)
  · show (lcdStep (timerStep s)).mem.wf = true
    rw [hs]
    exact dmaStep_wf ht
  · show (lcdStep (timerStep s)).mem.wf = true
    rw [hs, State.ppuStep_mem]
    exact dmaStep_wf ht

theorem busWrites_wf (ws : List (Word × Byte)) {s : State} (h : s.mem.wf = true) : (busWrites ws s).mem.wf = true := by
  induction ws generalizing s with
  | nil => exact h
  | cons w ws ih => exact ih (State.busWrite_wf w.1 w.2 h)

theorem Reaches.wf {s t : State} (hr : Reaches s t) (h : s.mem.wf = true) : t.mem.wf = true := by
  obtain ⟨ws, -, ht⟩ := hr
  have hm : t.mem = (busWrites ws s).mem := congrArg DevicePart.mem ht
  rw [hm]
  exact busWrites_wf ws h

/-- The interrupt service's effect outside the CPU: the acknowledged line's IF bit, then the two pushes. -/
theorem State.serviceInterrupt_reaches (s : State) :
    Reaches
      { s with ime := false, imePending := false, iflag := s.iflag &&& complement8 (1#8 <<< lowestLine s.pending) }
      s.serviceInterrupt :=
  (Reaches.pushWord s.pc _).trans rfl

/-! ### The three things a step can be -/

/-- What a step of an unfaulted machine is: the devices' steps alone, an interrupt service after them, or one
instruction after them; the cycle is counted last (R221, R227). -/
theorem step_cases {s : State} (h : s.fault = none) :
    ((deviceStep s).idle = true ∧ step s = .next (deviceStep s).nextCycle) ∨
    ((deviceStep s).idle = false ∧ (deviceStep s).wake.interrupted = true ∧
      step s = .next (deviceStep s).wake.serviceInterrupt.nextCycle) ∨
    ((deviceStep s).idle = false ∧ (deviceStep s).wake.interrupted = false ∧
      step s = .next ((sharedOp (deviceStep s).wake.fetch).run (deviceStep s).wake).nextCycle) := by
  unfold step cycleStep cpuStep
  rw [h]
  dsimp only
  cases hi : (deviceStep s).idle
  · cases hw : (deviceStep s).wake.interrupted
    · refine .inr (.inr ⟨rfl, rfl, ?_⟩)
      simp only [exec_sharedOp, if_false, Bool.false_eq_true]
    · refine .inr (.inl ⟨rfl, rfl, ?_⟩)
      simp only [if_true, if_false, Bool.false_eq_true]
  · exact .inl ⟨rfl, by simp only [if_true]⟩

end Sys2Proof.Machine
end

