-- ==== Sys2Proof/Laws/Host.lean ====
section
/-! SUPPORT. What the host's actions do: a run is the machine's steps one after another, standing still once a
fault is recorded, and a key changes the joypad's history and IF alone. -/

namespace Sys2Proof.Machine

/-- A step of an unfaulted machine is a next state. -/
theorem step_next {s : State} (h : s.fault = none) : ∃ t, step s = .next t := by
  obtain ⟨-, hs⟩ | ⟨-, -, hs⟩ | ⟨-, -, hs⟩ := step_cases h <;> exact ⟨_, hs⟩

/-- A machine with a recorded fault stands still. -/
theorem runCycles_faulted (n : Nat) {s : State} {f : Fault} (h : s.fault = some f) : runCycles n s = s := by
  cases n with
  | zero => rfl
  | succ n => simp [runCycles, step, cycleStep, h]

/-- One cycle more is one step more at the end. -/
theorem runCycles_succ (n : Nat) (s : State) : runCycles (n + 1) s = runCycles 1 (runCycles n s) := by
  induction n generalizing s with
  | zero => rfl
  | succ n ih =>
    cases hf : s.fault with
    | some f => rw [runCycles_faulted _ hf, runCycles_faulted _ hf, runCycles_faulted _ hf]
    | none =>
      obtain ⟨t, ht⟩ := step_next hf
      have e : ∀ m, runCycles (m + 1) s = runCycles m t := fun m => by
        show (match step s with
          | .next t => runCycles m t
          | .fault _ => s
          | .refused _ => s) = _
        rw [ht]
      rw [e, e, ih]

section
variable (k : Config.Key) (s : State)

@[simp] theorem State.keyReleased_joypad : (s.keyReleased k).joypad = s.joypad ++ [.release k] := rfl
@[simp] theorem State.keyReleased_iflag : (s.keyReleased k).iflag = s.iflag := rfl
@[simp] theorem State.keyReleased_cpuPart : (s.keyReleased k).cpuPart = s.cpuPart := rfl
@[simp] theorem State.keyReleased_mem : (s.keyReleased k).mem = s.mem := rfl

@[simp] theorem State.keyPressed_joypad : (s.keyPressed k).joypad = s.joypad ++ [.press k] := by
  unfold State.keyPressed
  dsimp only
  split <;> rfl
@[simp] theorem State.keyPressed_cpuPart : (s.keyPressed k).cpuPart = s.cpuPart := by
  unfold State.keyPressed
  dsimp only
  split <;> rfl
@[simp] theorem State.keyPressed_mem : (s.keyPressed k).mem = s.mem := by
  unfold State.keyPressed
  dsimp only
  split <;> rfl

end

end Sys2Proof.Machine
end

