-- ==== Sys2Proof/Laws/PerInstr.lean ====
section
/-! SUPPORT. One lemma per instruction: its encoding has the length the direct table gives its first byte,
1, 2 or 3 (spec 30_encoding.md R86, R98). -/

namespace Sys2Proof.Laws.Length

/-- The encoding of an instruction is as long as its first byte says, and 1, 2 or 3 bytes long; for the
`illegal` constructor this is said of the 11 bytes without an instruction. -/
def Statement (i : Instr) : Prop :=
  i.wellFormed = true →
    (encode i).length = opcodeLength ((encode i).headD 0) ∧ 1 ≤ (encode i).length ∧ (encode i).length ≤ 3

/-- Every length of the direct table is at most 3 (R86). -/
theorem opcodeLength_le_three (b : Byte) : opcodeLength b ≤ 3 := by
  unfold opcodeLength
  split <;> decide

/-- The statement from the encoding's bytes. -/
theorem of_bytes {i : Instr} {b : Byte} {rest : List Byte} (h : encode i = b :: rest)
    (hl : rest.length + 1 = opcodeLength b) : Statement i := by
  intro _
  have h3 := opcodeLength_le_three b
  rw [h]
  exact ⟨hl, Nat.succ_le_succ (Nat.zero_le _), by rw [List.length_cons, hl]; exact h3⟩

theorem ldBcN16 (n16 : Word) : Statement (.ldBcN16 n16) := of_bytes (b := 0x01) rfl rfl

theorem ldAtBcA : Statement (.ldAtBcA) := of_bytes (b := 0x02) rfl rfl

theorem incBc : Statement (.incBc) := of_bytes (b := 0x03) rfl rfl

theorem incB : Statement (.incB) := of_bytes (b := 0x04) rfl rfl

theorem decB : Statement (.decB) := of_bytes (b := 0x05) rfl rfl

theorem ldBN8 (n8 : Byte) : Statement (.ldBN8 n8) := of_bytes (b := 0x06) rfl rfl

theorem rlca : Statement (.rlca) := of_bytes (b := 0x07) rfl rfl

theorem ldAtN16Sp (n16 : Word) : Statement (.ldAtN16Sp n16) := of_bytes (b := 0x08) rfl rfl

theorem addHlBc : Statement (.addHlBc) := of_bytes (b := 0x09) rfl rfl

theorem ldAAtBc : Statement (.ldAAtBc) := of_bytes (b := 0x0A) rfl rfl

theorem decBc : Statement (.decBc) := of_bytes (b := 0x0B) rfl rfl

theorem incC : Statement (.incC) := of_bytes (b := 0x0C) rfl rfl

theorem decC : Statement (.decC) := of_bytes (b := 0x0D) rfl rfl

theorem ldCN8 (n8 : Byte) : Statement (.ldCN8 n8) := of_bytes (b := 0x0E) rfl rfl

theorem rrca : Statement (.rrca) := of_bytes (b := 0x0F) rfl rfl

theorem ldDeN16 (n16 : Word) : Statement (.ldDeN16 n16) := of_bytes (b := 0x11) rfl rfl

theorem ldAtDeA : Statement (.ldAtDeA) := of_bytes (b := 0x12) rfl rfl

theorem incDe : Statement (.incDe) := of_bytes (b := 0x13) rfl rfl

theorem incD : Statement (.incD) := of_bytes (b := 0x14) rfl rfl

theorem decD : Statement (.decD) := of_bytes (b := 0x15) rfl rfl

theorem ldDN8 (n8 : Byte) : Statement (.ldDN8 n8) := of_bytes (b := 0x16) rfl rfl

theorem rla : Statement (.rla) := of_bytes (b := 0x17) rfl rfl

theorem jrE8 (e8 : Byte) : Statement (.jrE8 e8) := of_bytes (b := 0x18) rfl rfl

theorem addHlDe : Statement (.addHlDe) := of_bytes (b := 0x19) rfl rfl

theorem ldAAtDe : Statement (.ldAAtDe) := of_bytes (b := 0x1A) rfl rfl

theorem decDe : Statement (.decDe) := of_bytes (b := 0x1B) rfl rfl

theorem incE : Statement (.incE) := of_bytes (b := 0x1C) rfl rfl

theorem decE : Statement (.decE) := of_bytes (b := 0x1D) rfl rfl

theorem ldEN8 (n8 : Byte) : Statement (.ldEN8 n8) := of_bytes (b := 0x1E) rfl rfl

theorem rra : Statement (.rra) := of_bytes (b := 0x1F) rfl rfl

theorem jrNzE8 (e8 : Byte) : Statement (.jrNzE8 e8) := of_bytes (b := 0x20) rfl rfl

theorem ldHlN16 (n16 : Word) : Statement (.ldHlN16 n16) := of_bytes (b := 0x21) rfl rfl

theorem ldAtHliA : Statement (.ldAtHliA) := of_bytes (b := 0x22) rfl rfl

theorem incHl : Statement (.incHl) := of_bytes (b := 0x23) rfl rfl

theorem incH : Statement (.incH) := of_bytes (b := 0x24) rfl rfl

theorem decH : Statement (.decH) := of_bytes (b := 0x25) rfl rfl

theorem ldHN8 (n8 : Byte) : Statement (.ldHN8 n8) := of_bytes (b := 0x26) rfl rfl

theorem daa : Statement (.daa) := of_bytes (b := 0x27) rfl rfl

theorem jrZE8 (e8 : Byte) : Statement (.jrZE8 e8) := of_bytes (b := 0x28) rfl rfl

theorem addHlHl : Statement (.addHlHl) := of_bytes (b := 0x29) rfl rfl

theorem ldAAtHli : Statement (.ldAAtHli) := of_bytes (b := 0x2A) rfl rfl

theorem decHl : Statement (.decHl) := of_bytes (b := 0x2B) rfl rfl

theorem incL : Statement (.incL) := of_bytes (b := 0x2C) rfl rfl

theorem decL : Statement (.decL) := of_bytes (b := 0x2D) rfl rfl

theorem ldLN8 (n8 : Byte) : Statement (.ldLN8 n8) := of_bytes (b := 0x2E) rfl rfl

theorem cpl : Statement (.cpl) := of_bytes (b := 0x2F) rfl rfl

theorem jrNcE8 (e8 : Byte) : Statement (.jrNcE8 e8) := of_bytes (b := 0x30) rfl rfl

theorem ldSpN16 (n16 : Word) : Statement (.ldSpN16 n16) := of_bytes (b := 0x31) rfl rfl

theorem ldAtHldA : Statement (.ldAtHldA) := of_bytes (b := 0x32) rfl rfl

theorem incSp : Statement (.incSp) := of_bytes (b := 0x33) rfl rfl

theorem incAtHl : Statement (.incAtHl) := of_bytes (b := 0x34) rfl rfl

theorem decAtHl : Statement (.decAtHl) := of_bytes (b := 0x35) rfl rfl

theorem ldAtHlN8 (n8 : Byte) : Statement (.ldAtHlN8 n8) := of_bytes (b := 0x36) rfl rfl

theorem scf : Statement (.scf) := of_bytes (b := 0x37) rfl rfl

theorem jrCE8 (e8 : Byte) : Statement (.jrCE8 e8) := of_bytes (b := 0x38) rfl rfl

theorem addHlSp : Statement (.addHlSp) := of_bytes (b := 0x39) rfl rfl

theorem ldAAtHld : Statement (.ldAAtHld) := of_bytes (b := 0x3A) rfl rfl

theorem decSp : Statement (.decSp) := of_bytes (b := 0x3B) rfl rfl

theorem incA : Statement (.incA) := of_bytes (b := 0x3C) rfl rfl

theorem decA : Statement (.decA) := of_bytes (b := 0x3D) rfl rfl

theorem ldAN8 (n8 : Byte) : Statement (.ldAN8 n8) := of_bytes (b := 0x3E) rfl rfl

theorem ccf : Statement (.ccf) := of_bytes (b := 0x3F) rfl rfl

theorem ldBB : Statement (.ldBB) := of_bytes (b := 0x40) rfl rfl

theorem ldBC : Statement (.ldBC) := of_bytes (b := 0x41) rfl rfl

theorem ldBD : Statement (.ldBD) := of_bytes (b := 0x42) rfl rfl

theorem ldBE : Statement (.ldBE) := of_bytes (b := 0x43) rfl rfl

theorem ldBH : Statement (.ldBH) := of_bytes (b := 0x44) rfl rfl

theorem ldBL : Statement (.ldBL) := of_bytes (b := 0x45) rfl rfl

theorem ldBAtHl : Statement (.ldBAtHl) := of_bytes (b := 0x46) rfl rfl

theorem ldBA : Statement (.ldBA) := of_bytes (b := 0x47) rfl rfl

theorem ldCB : Statement (.ldCB) := of_bytes (b := 0x48) rfl rfl

theorem ldCC : Statement (.ldCC) := of_bytes (b := 0x49) rfl rfl

theorem ldCD : Statement (.ldCD) := of_bytes (b := 0x4A) rfl rfl

theorem ldCE : Statement (.ldCE) := of_bytes (b := 0x4B) rfl rfl

theorem ldCH : Statement (.ldCH) := of_bytes (b := 0x4C) rfl rfl

theorem ldCL : Statement (.ldCL) := of_bytes (b := 0x4D) rfl rfl

theorem ldCAtHl : Statement (.ldCAtHl) := of_bytes (b := 0x4E) rfl rfl

theorem ldCA : Statement (.ldCA) := of_bytes (b := 0x4F) rfl rfl

theorem ldDB : Statement (.ldDB) := of_bytes (b := 0x50) rfl rfl

theorem ldDC : Statement (.ldDC) := of_bytes (b := 0x51) rfl rfl

theorem ldDD : Statement (.ldDD) := of_bytes (b := 0x52) rfl rfl

theorem ldDE : Statement (.ldDE) := of_bytes (b := 0x53) rfl rfl

theorem ldDH : Statement (.ldDH) := of_bytes (b := 0x54) rfl rfl

theorem ldDL : Statement (.ldDL) := of_bytes (b := 0x55) rfl rfl

theorem ldDAtHl : Statement (.ldDAtHl) := of_bytes (b := 0x56) rfl rfl

theorem ldDA : Statement (.ldDA) := of_bytes (b := 0x57) rfl rfl

theorem ldEB : Statement (.ldEB) := of_bytes (b := 0x58) rfl rfl

theorem ldEC : Statement (.ldEC) := of_bytes (b := 0x59) rfl rfl

theorem ldED : Statement (.ldED) := of_bytes (b := 0x5A) rfl rfl

theorem ldEE : Statement (.ldEE) := of_bytes (b := 0x5B) rfl rfl

theorem ldEH : Statement (.ldEH) := of_bytes (b := 0x5C) rfl rfl

theorem ldEL : Statement (.ldEL) := of_bytes (b := 0x5D) rfl rfl

theorem ldEAtHl : Statement (.ldEAtHl) := of_bytes (b := 0x5E) rfl rfl

theorem ldEA : Statement (.ldEA) := of_bytes (b := 0x5F) rfl rfl

theorem ldHB : Statement (.ldHB) := of_bytes (b := 0x60) rfl rfl

theorem ldHC : Statement (.ldHC) := of_bytes (b := 0x61) rfl rfl

theorem ldHD : Statement (.ldHD) := of_bytes (b := 0x62) rfl rfl

theorem ldHE : Statement (.ldHE) := of_bytes (b := 0x63) rfl rfl

theorem ldHH : Statement (.ldHH) := of_bytes (b := 0x64) rfl rfl

theorem ldHL : Statement (.ldHL) := of_bytes (b := 0x65) rfl rfl

theorem ldHAtHl : Statement (.ldHAtHl) := of_bytes (b := 0x66) rfl rfl

theorem ldHA : Statement (.ldHA) := of_bytes (b := 0x67) rfl rfl

theorem ldLB : Statement (.ldLB) := of_bytes (b := 0x68) rfl rfl

theorem ldLC : Statement (.ldLC) := of_bytes (b := 0x69) rfl rfl

theorem ldLD : Statement (.ldLD) := of_bytes (b := 0x6A) rfl rfl

theorem ldLE : Statement (.ldLE) := of_bytes (b := 0x6B) rfl rfl

theorem ldLH : Statement (.ldLH) := of_bytes (b := 0x6C) rfl rfl

theorem ldLL : Statement (.ldLL) := of_bytes (b := 0x6D) rfl rfl

theorem ldLAtHl : Statement (.ldLAtHl) := of_bytes (b := 0x6E) rfl rfl

theorem ldLA : Statement (.ldLA) := of_bytes (b := 0x6F) rfl rfl

theorem ldAtHlB : Statement (.ldAtHlB) := of_bytes (b := 0x70) rfl rfl

theorem ldAtHlC : Statement (.ldAtHlC) := of_bytes (b := 0x71) rfl rfl

theorem ldAtHlD : Statement (.ldAtHlD) := of_bytes (b := 0x72) rfl rfl

theorem ldAtHlE : Statement (.ldAtHlE) := of_bytes (b := 0x73) rfl rfl

theorem ldAtHlH : Statement (.ldAtHlH) := of_bytes (b := 0x74) rfl rfl

theorem ldAtHlL : Statement (.ldAtHlL) := of_bytes (b := 0x75) rfl rfl

theorem ldAtHlA : Statement (.ldAtHlA) := of_bytes (b := 0x77) rfl rfl

theorem ldAB : Statement (.ldAB) := of_bytes (b := 0x78) rfl rfl

theorem ldAC : Statement (.ldAC) := of_bytes (b := 0x79) rfl rfl

theorem ldAD : Statement (.ldAD) := of_bytes (b := 0x7A) rfl rfl

theorem ldAE : Statement (.ldAE) := of_bytes (b := 0x7B) rfl rfl

theorem ldAH : Statement (.ldAH) := of_bytes (b := 0x7C) rfl rfl

theorem ldAL : Statement (.ldAL) := of_bytes (b := 0x7D) rfl rfl

theorem ldAAtHl : Statement (.ldAAtHl) := of_bytes (b := 0x7E) rfl rfl

theorem ldAA : Statement (.ldAA) := of_bytes (b := 0x7F) rfl rfl

theorem addAB : Statement (.addAB) := of_bytes (b := 0x80) rfl rfl

theorem addAC : Statement (.addAC) := of_bytes (b := 0x81) rfl rfl

theorem addAD : Statement (.addAD) := of_bytes (b := 0x82) rfl rfl

theorem addAE : Statement (.addAE) := of_bytes (b := 0x83) rfl rfl

theorem addAH : Statement (.addAH) := of_bytes (b := 0x84) rfl rfl

theorem addAL : Statement (.addAL) := of_bytes (b := 0x85) rfl rfl

theorem addAAtHl : Statement (.addAAtHl) := of_bytes (b := 0x86) rfl rfl

theorem addAA : Statement (.addAA) := of_bytes (b := 0x87) rfl rfl

theorem adcAB : Statement (.adcAB) := of_bytes (b := 0x88) rfl rfl

theorem adcAC : Statement (.adcAC) := of_bytes (b := 0x89) rfl rfl

theorem adcAD : Statement (.adcAD) := of_bytes (b := 0x8A) rfl rfl

theorem adcAE : Statement (.adcAE) := of_bytes (b := 0x8B) rfl rfl

theorem adcAH : Statement (.adcAH) := of_bytes (b := 0x8C) rfl rfl

theorem adcAL : Statement (.adcAL) := of_bytes (b := 0x8D) rfl rfl

theorem adcAAtHl : Statement (.adcAAtHl) := of_bytes (b := 0x8E) rfl rfl

theorem adcAA : Statement (.adcAA) := of_bytes (b := 0x8F) rfl rfl

theorem subAB : Statement (.subAB) := of_bytes (b := 0x90) rfl rfl

theorem subAC : Statement (.subAC) := of_bytes (b := 0x91) rfl rfl

theorem subAD : Statement (.subAD) := of_bytes (b := 0x92) rfl rfl

theorem subAE : Statement (.subAE) := of_bytes (b := 0x93) rfl rfl

theorem subAH : Statement (.subAH) := of_bytes (b := 0x94) rfl rfl

theorem subAL : Statement (.subAL) := of_bytes (b := 0x95) rfl rfl

theorem subAAtHl : Statement (.subAAtHl) := of_bytes (b := 0x96) rfl rfl

theorem subAA : Statement (.subAA) := of_bytes (b := 0x97) rfl rfl

theorem sbcAB : Statement (.sbcAB) := of_bytes (b := 0x98) rfl rfl

theorem sbcAC : Statement (.sbcAC) := of_bytes (b := 0x99) rfl rfl

theorem sbcAD : Statement (.sbcAD) := of_bytes (b := 0x9A) rfl rfl

theorem sbcAE : Statement (.sbcAE) := of_bytes (b := 0x9B) rfl rfl

theorem sbcAH : Statement (.sbcAH) := of_bytes (b := 0x9C) rfl rfl

theorem sbcAL : Statement (.sbcAL) := of_bytes (b := 0x9D) rfl rfl

theorem sbcAAtHl : Statement (.sbcAAtHl) := of_bytes (b := 0x9E) rfl rfl

theorem sbcAA : Statement (.sbcAA) := of_bytes (b := 0x9F) rfl rfl

theorem andAB : Statement (.andAB) := of_bytes (b := 0xA0) rfl rfl

theorem andAC : Statement (.andAC) := of_bytes (b := 0xA1) rfl rfl

theorem andAD : Statement (.andAD) := of_bytes (b := 0xA2) rfl rfl

theorem andAE : Statement (.andAE) := of_bytes (b := 0xA3) rfl rfl

theorem andAH : Statement (.andAH) := of_bytes (b := 0xA4) rfl rfl

theorem andAL : Statement (.andAL) := of_bytes (b := 0xA5) rfl rfl

theorem andAAtHl : Statement (.andAAtHl) := of_bytes (b := 0xA6) rfl rfl

theorem andAA : Statement (.andAA) := of_bytes (b := 0xA7) rfl rfl

theorem xorAB : Statement (.xorAB) := of_bytes (b := 0xA8) rfl rfl

theorem xorAC : Statement (.xorAC) := of_bytes (b := 0xA9) rfl rfl

theorem xorAD : Statement (.xorAD) := of_bytes (b := 0xAA) rfl rfl

theorem xorAE : Statement (.xorAE) := of_bytes (b := 0xAB) rfl rfl

theorem xorAH : Statement (.xorAH) := of_bytes (b := 0xAC) rfl rfl

theorem xorAL : Statement (.xorAL) := of_bytes (b := 0xAD) rfl rfl

theorem xorAAtHl : Statement (.xorAAtHl) := of_bytes (b := 0xAE) rfl rfl

theorem xorAA : Statement (.xorAA) := of_bytes (b := 0xAF) rfl rfl

theorem orAB : Statement (.orAB) := of_bytes (b := 0xB0) rfl rfl

theorem orAC : Statement (.orAC) := of_bytes (b := 0xB1) rfl rfl

theorem orAD : Statement (.orAD) := of_bytes (b := 0xB2) rfl rfl

theorem orAE : Statement (.orAE) := of_bytes (b := 0xB3) rfl rfl

theorem orAH : Statement (.orAH) := of_bytes (b := 0xB4) rfl rfl

theorem orAL : Statement (.orAL) := of_bytes (b := 0xB5) rfl rfl

theorem orAAtHl : Statement (.orAAtHl) := of_bytes (b := 0xB6) rfl rfl

theorem orAA : Statement (.orAA) := of_bytes (b := 0xB7) rfl rfl

theorem cpAB : Statement (.cpAB) := of_bytes (b := 0xB8) rfl rfl

theorem cpAC : Statement (.cpAC) := of_bytes (b := 0xB9) rfl rfl

theorem cpAD : Statement (.cpAD) := of_bytes (b := 0xBA) rfl rfl

theorem cpAE : Statement (.cpAE) := of_bytes (b := 0xBB) rfl rfl

theorem cpAH : Statement (.cpAH) := of_bytes (b := 0xBC) rfl rfl

theorem cpAL : Statement (.cpAL) := of_bytes (b := 0xBD) rfl rfl

theorem cpAAtHl : Statement (.cpAAtHl) := of_bytes (b := 0xBE) rfl rfl

theorem cpAA : Statement (.cpAA) := of_bytes (b := 0xBF) rfl rfl

theorem retNz : Statement (.retNz) := of_bytes (b := 0xC0) rfl rfl

theorem popBc : Statement (.popBc) := of_bytes (b := 0xC1) rfl rfl

theorem jpNzN16 (n16 : Word) : Statement (.jpNzN16 n16) := of_bytes (b := 0xC2) rfl rfl

theorem jpN16 (n16 : Word) : Statement (.jpN16 n16) := of_bytes (b := 0xC3) rfl rfl

theorem callNzN16 (n16 : Word) : Statement (.callNzN16 n16) := of_bytes (b := 0xC4) rfl rfl

theorem pushBc : Statement (.pushBc) := of_bytes (b := 0xC5) rfl rfl

theorem addAN8 (n8 : Byte) : Statement (.addAN8 n8) := of_bytes (b := 0xC6) rfl rfl

theorem rst00 : Statement (.rst00) := of_bytes (b := 0xC7) rfl rfl

theorem retZ : Statement (.retZ) := of_bytes (b := 0xC8) rfl rfl

theorem ret : Statement (.ret) := of_bytes (b := 0xC9) rfl rfl

theorem jpZN16 (n16 : Word) : Statement (.jpZN16 n16) := of_bytes (b := 0xCA) rfl rfl

theorem prefixCb (op2 : Byte) : Statement (.prefixCb op2) := of_bytes (b := 0xCB) (rest := [op2]) rfl rfl

theorem callZN16 (n16 : Word) : Statement (.callZN16 n16) := of_bytes (b := 0xCC) rfl rfl

theorem callN16 (n16 : Word) : Statement (.callN16 n16) := of_bytes (b := 0xCD) rfl rfl

theorem adcAN8 (n8 : Byte) : Statement (.adcAN8 n8) := of_bytes (b := 0xCE) rfl rfl

theorem rst08 : Statement (.rst08) := of_bytes (b := 0xCF) rfl rfl

theorem retNc : Statement (.retNc) := of_bytes (b := 0xD0) rfl rfl

theorem popDe : Statement (.popDe) := of_bytes (b := 0xD1) rfl rfl

theorem jpNcN16 (n16 : Word) : Statement (.jpNcN16 n16) := of_bytes (b := 0xD2) rfl rfl

theorem illegal (op : Byte) : Statement (.illegal op) := by
  intro h
  have hm : op ∈ illegalBytes := List.contains_iff_mem.mp h
  simp only [illegalBytes, List.mem_cons, List.not_mem_nil, or_false] at hm
  rcases hm with rfl | rfl | rfl | rfl | rfl | rfl | rfl | rfl | rfl | rfl | rfl <;>
    exact of_bytes (rest := []) rfl rfl h

theorem callNcN16 (n16 : Word) : Statement (.callNcN16 n16) := of_bytes (b := 0xD4) rfl rfl

theorem pushDe : Statement (.pushDe) := of_bytes (b := 0xD5) rfl rfl

theorem subAN8 (n8 : Byte) : Statement (.subAN8 n8) := of_bytes (b := 0xD6) rfl rfl

theorem rst10 : Statement (.rst10) := of_bytes (b := 0xD7) rfl rfl

theorem retC : Statement (.retC) := of_bytes (b := 0xD8) rfl rfl

theorem reti : Statement (.reti) := of_bytes (b := 0xD9) rfl rfl

theorem jpCN16 (n16 : Word) : Statement (.jpCN16 n16) := of_bytes (b := 0xDA) rfl rfl

theorem callCN16 (n16 : Word) : Statement (.callCN16 n16) := of_bytes (b := 0xDC) rfl rfl

theorem sbcAN8 (n8 : Byte) : Statement (.sbcAN8 n8) := of_bytes (b := 0xDE) rfl rfl

theorem rst18 : Statement (.rst18) := of_bytes (b := 0xDF) rfl rfl

theorem ldhAtN8A (n8 : Byte) : Statement (.ldhAtN8A n8) := of_bytes (b := 0xE0) rfl rfl

theorem popHl : Statement (.popHl) := of_bytes (b := 0xE1) rfl rfl

theorem ldhAtCA : Statement (.ldhAtCA) := of_bytes (b := 0xE2) rfl rfl

theorem pushHl : Statement (.pushHl) := of_bytes (b := 0xE5) rfl rfl

theorem andAN8 (n8 : Byte) : Statement (.andAN8 n8) := of_bytes (b := 0xE6) rfl rfl

theorem rst20 : Statement (.rst20) := of_bytes (b := 0xE7) rfl rfl

theorem addSpE8 (e8 : Byte) : Statement (.addSpE8 e8) := of_bytes (b := 0xE8) rfl rfl

theorem jpHl : Statement (.jpHl) := of_bytes (b := 0xE9) rfl rfl

theorem ldAtN16A (n16 : Word) : Statement (.ldAtN16A n16) := of_bytes (b := 0xEA) rfl rfl

theorem xorAN8 (n8 : Byte) : Statement (.xorAN8 n8) := of_bytes (b := 0xEE) rfl rfl

theorem rst28 : Statement (.rst28) := of_bytes (b := 0xEF) rfl rfl

theorem ldhAAtN8 (n8 : Byte) : Statement (.ldhAAtN8 n8) := of_bytes (b := 0xF0) rfl rfl

theorem popAf : Statement (.popAf) := of_bytes (b := 0xF1) rfl rfl

theorem ldhAAtC : Statement (.ldhAAtC) := of_bytes (b := 0xF2) rfl rfl

theorem pushAf : Statement (.pushAf) := of_bytes (b := 0xF5) rfl rfl

theorem orAN8 (n8 : Byte) : Statement (.orAN8 n8) := of_bytes (b := 0xF6) rfl rfl

theorem rst30 : Statement (.rst30) := of_bytes (b := 0xF7) rfl rfl

theorem ldHlSpE8 (e8 : Byte) : Statement (.ldHlSpE8 e8) := of_bytes (b := 0xF8) rfl rfl

theorem ldSpHl : Statement (.ldSpHl) := of_bytes (b := 0xF9) rfl rfl

theorem ldAAtN16 (n16 : Word) : Statement (.ldAAtN16 n16) := of_bytes (b := 0xFA) rfl rfl

theorem cpAN8 (n8 : Byte) : Statement (.cpAN8 n8) := of_bytes (b := 0xFE) rfl rfl

theorem rst38 : Statement (.rst38) := of_bytes (b := 0xFF) rfl rfl

theorem rlcB : Statement (.rlcB) := of_bytes (b := 0xCB) rfl rfl

theorem rlcC : Statement (.rlcC) := of_bytes (b := 0xCB) rfl rfl

theorem rlcD : Statement (.rlcD) := of_bytes (b := 0xCB) rfl rfl

theorem rlcE : Statement (.rlcE) := of_bytes (b := 0xCB) rfl rfl

theorem rlcH : Statement (.rlcH) := of_bytes (b := 0xCB) rfl rfl

theorem rlcL : Statement (.rlcL) := of_bytes (b := 0xCB) rfl rfl

theorem rlcAtHl : Statement (.rlcAtHl) := of_bytes (b := 0xCB) rfl rfl

theorem rlcA : Statement (.rlcA) := of_bytes (b := 0xCB) rfl rfl

theorem rrcB : Statement (.rrcB) := of_bytes (b := 0xCB) rfl rfl

theorem rrcC : Statement (.rrcC) := of_bytes (b := 0xCB) rfl rfl

theorem rrcD : Statement (.rrcD) := of_bytes (b := 0xCB) rfl rfl

theorem rrcE : Statement (.rrcE) := of_bytes (b := 0xCB) rfl rfl

theorem rrcH : Statement (.rrcH) := of_bytes (b := 0xCB) rfl rfl

theorem rrcL : Statement (.rrcL) := of_bytes (b := 0xCB) rfl rfl

theorem rrcAtHl : Statement (.rrcAtHl) := of_bytes (b := 0xCB) rfl rfl

theorem rrcA : Statement (.rrcA) := of_bytes (b := 0xCB) rfl rfl

theorem rlB : Statement (.rlB) := of_bytes (b := 0xCB) rfl rfl

theorem rlC : Statement (.rlC) := of_bytes (b := 0xCB) rfl rfl

theorem rlD : Statement (.rlD) := of_bytes (b := 0xCB) rfl rfl

theorem rlE : Statement (.rlE) := of_bytes (b := 0xCB) rfl rfl

theorem rlH : Statement (.rlH) := of_bytes (b := 0xCB) rfl rfl

theorem rlL : Statement (.rlL) := of_bytes (b := 0xCB) rfl rfl

theorem rlAtHl : Statement (.rlAtHl) := of_bytes (b := 0xCB) rfl rfl

theorem rlA : Statement (.rlA) := of_bytes (b := 0xCB) rfl rfl

theorem rrB : Statement (.rrB) := of_bytes (b := 0xCB) rfl rfl

theorem rrC : Statement (.rrC) := of_bytes (b := 0xCB) rfl rfl

theorem rrD : Statement (.rrD) := of_bytes (b := 0xCB) rfl rfl

theorem rrE : Statement (.rrE) := of_bytes (b := 0xCB) rfl rfl

theorem rrH : Statement (.rrH) := of_bytes (b := 0xCB) rfl rfl

theorem rrL : Statement (.rrL) := of_bytes (b := 0xCB) rfl rfl

theorem rrAtHl : Statement (.rrAtHl) := of_bytes (b := 0xCB) rfl rfl

theorem rrA : Statement (.rrA) := of_bytes (b := 0xCB) rfl rfl

theorem slaB : Statement (.slaB) := of_bytes (b := 0xCB) rfl rfl

theorem slaC : Statement (.slaC) := of_bytes (b := 0xCB) rfl rfl

theorem slaD : Statement (.slaD) := of_bytes (b := 0xCB) rfl rfl

theorem slaE : Statement (.slaE) := of_bytes (b := 0xCB) rfl rfl

theorem slaH : Statement (.slaH) := of_bytes (b := 0xCB) rfl rfl

theorem slaL : Statement (.slaL) := of_bytes (b := 0xCB) rfl rfl

theorem slaAtHl : Statement (.slaAtHl) := of_bytes (b := 0xCB) rfl rfl

theorem slaA : Statement (.slaA) := of_bytes (b := 0xCB) rfl rfl

theorem sraB : Statement (.sraB) := of_bytes (b := 0xCB) rfl rfl

theorem sraC : Statement (.sraC) := of_bytes (b := 0xCB) rfl rfl

theorem sraD : Statement (.sraD) := of_bytes (b := 0xCB) rfl rfl

theorem sraE : Statement (.sraE) := of_bytes (b := 0xCB) rfl rfl

theorem sraH : Statement (.sraH) := of_bytes (b := 0xCB) rfl rfl

theorem sraL : Statement (.sraL) := of_bytes (b := 0xCB) rfl rfl

theorem sraAtHl : Statement (.sraAtHl) := of_bytes (b := 0xCB) rfl rfl

theorem sraA : Statement (.sraA) := of_bytes (b := 0xCB) rfl rfl

theorem swapB : Statement (.swapB) := of_bytes (b := 0xCB) rfl rfl

theorem swapC : Statement (.swapC) := of_bytes (b := 0xCB) rfl rfl

theorem swapD : Statement (.swapD) := of_bytes (b := 0xCB) rfl rfl

theorem swapE : Statement (.swapE) := of_bytes (b := 0xCB) rfl rfl

theorem swapH : Statement (.swapH) := of_bytes (b := 0xCB) rfl rfl

theorem swapL : Statement (.swapL) := of_bytes (b := 0xCB) rfl rfl

theorem swapAtHl : Statement (.swapAtHl) := of_bytes (b := 0xCB) rfl rfl

theorem swapA : Statement (.swapA) := of_bytes (b := 0xCB) rfl rfl

theorem srlB : Statement (.srlB) := of_bytes (b := 0xCB) rfl rfl

theorem srlC : Statement (.srlC) := of_bytes (b := 0xCB) rfl rfl

theorem srlD : Statement (.srlD) := of_bytes (b := 0xCB) rfl rfl

theorem srlE : Statement (.srlE) := of_bytes (b := 0xCB) rfl rfl

theorem srlH : Statement (.srlH) := of_bytes (b := 0xCB) rfl rfl

theorem srlL : Statement (.srlL) := of_bytes (b := 0xCB) rfl rfl

theorem srlAtHl : Statement (.srlAtHl) := of_bytes (b := 0xCB) rfl rfl

theorem srlA : Statement (.srlA) := of_bytes (b := 0xCB) rfl rfl

theorem bit0B : Statement (.bit0B) := of_bytes (b := 0xCB) rfl rfl

theorem bit0C : Statement (.bit0C) := of_bytes (b := 0xCB) rfl rfl

theorem bit0D : Statement (.bit0D) := of_bytes (b := 0xCB) rfl rfl

theorem bit0E : Statement (.bit0E) := of_bytes (b := 0xCB) rfl rfl

theorem bit0H : Statement (.bit0H) := of_bytes (b := 0xCB) rfl rfl

theorem bit0L : Statement (.bit0L) := of_bytes (b := 0xCB) rfl rfl

theorem bit0AtHl : Statement (.bit0AtHl) := of_bytes (b := 0xCB) rfl rfl

theorem bit0A : Statement (.bit0A) := of_bytes (b := 0xCB) rfl rfl

theorem bit1B : Statement (.bit1B) := of_bytes (b := 0xCB) rfl rfl

theorem bit1C : Statement (.bit1C) := of_bytes (b := 0xCB) rfl rfl

theorem bit1D : Statement (.bit1D) := of_bytes (b := 0xCB) rfl rfl

theorem bit1E : Statement (.bit1E) := of_bytes (b := 0xCB) rfl rfl

theorem bit1H : Statement (.bit1H) := of_bytes (b := 0xCB) rfl rfl

theorem bit1L : Statement (.bit1L) := of_bytes (b := 0xCB) rfl rfl

theorem bit1AtHl : Statement (.bit1AtHl) := of_bytes (b := 0xCB) rfl rfl

theorem bit1A : Statement (.bit1A) := of_bytes (b := 0xCB) rfl rfl

theorem bit2B : Statement (.bit2B) := of_bytes (b := 0xCB) rfl rfl

theorem bit2C : Statement (.bit2C) := of_bytes (b := 0xCB) rfl rfl

theorem bit2D : Statement (.bit2D) := of_bytes (b := 0xCB) rfl rfl

theorem bit2E : Statement (.bit2E) := of_bytes (b := 0xCB) rfl rfl

theorem bit2H : Statement (.bit2H) := of_bytes (b := 0xCB) rfl rfl

theorem bit2L : Statement (.bit2L) := of_bytes (b := 0xCB) rfl rfl

theorem bit2AtHl : Statement (.bit2AtHl) := of_bytes (b := 0xCB) rfl rfl

theorem bit2A : Statement (.bit2A) := of_bytes (b := 0xCB) rfl rfl

theorem bit3B : Statement (.bit3B) := of_bytes (b := 0xCB) rfl rfl

theorem bit3C : Statement (.bit3C) := of_bytes (b := 0xCB) rfl rfl

theorem bit3D : Statement (.bit3D) := of_bytes (b := 0xCB) rfl rfl

theorem bit3E : Statement (.bit3E) := of_bytes (b := 0xCB) rfl rfl

theorem bit3H : Statement (.bit3H) := of_bytes (b := 0xCB) rfl rfl

theorem bit3L : Statement (.bit3L) := of_bytes (b := 0xCB) rfl rfl

theorem bit3AtHl : Statement (.bit3AtHl) := of_bytes (b := 0xCB) rfl rfl

theorem bit3A : Statement (.bit3A) := of_bytes (b := 0xCB) rfl rfl

theorem bit4B : Statement (.bit4B) := of_bytes (b := 0xCB) rfl rfl

theorem bit4C : Statement (.bit4C) := of_bytes (b := 0xCB) rfl rfl

theorem bit4D : Statement (.bit4D) := of_bytes (b := 0xCB) rfl rfl

theorem bit4E : Statement (.bit4E) := of_bytes (b := 0xCB) rfl rfl

theorem bit4H : Statement (.bit4H) := of_bytes (b := 0xCB) rfl rfl

theorem bit4L : Statement (.bit4L) := of_bytes (b := 0xCB) rfl rfl

theorem bit4AtHl : Statement (.bit4AtHl) := of_bytes (b := 0xCB) rfl rfl

theorem bit4A : Statement (.bit4A) := of_bytes (b := 0xCB) rfl rfl

theorem bit5B : Statement (.bit5B) := of_bytes (b := 0xCB) rfl rfl

theorem bit5C : Statement (.bit5C) := of_bytes (b := 0xCB) rfl rfl

theorem bit5D : Statement (.bit5D) := of_bytes (b := 0xCB) rfl rfl

theorem bit5E : Statement (.bit5E) := of_bytes (b := 0xCB) rfl rfl

theorem bit5H : Statement (.bit5H) := of_bytes (b := 0xCB) rfl rfl

theorem bit5L : Statement (.bit5L) := of_bytes (b := 0xCB) rfl rfl

theorem bit5AtHl : Statement (.bit5AtHl) := of_bytes (b := 0xCB) rfl rfl

theorem bit5A : Statement (.bit5A) := of_bytes (b := 0xCB) rfl rfl

theorem bit6B : Statement (.bit6B) := of_bytes (b := 0xCB) rfl rfl

theorem bit6C : Statement (.bit6C) := of_bytes (b := 0xCB) rfl rfl

theorem bit6D : Statement (.bit6D) := of_bytes (b := 0xCB) rfl rfl

theorem bit6E : Statement (.bit6E) := of_bytes (b := 0xCB) rfl rfl

theorem bit6H : Statement (.bit6H) := of_bytes (b := 0xCB) rfl rfl

theorem bit6L : Statement (.bit6L) := of_bytes (b := 0xCB) rfl rfl

theorem bit6AtHl : Statement (.bit6AtHl) := of_bytes (b := 0xCB) rfl rfl

theorem bit6A : Statement (.bit6A) := of_bytes (b := 0xCB) rfl rfl

theorem bit7B : Statement (.bit7B) := of_bytes (b := 0xCB) rfl rfl

theorem bit7C : Statement (.bit7C) := of_bytes (b := 0xCB) rfl rfl

theorem bit7D : Statement (.bit7D) := of_bytes (b := 0xCB) rfl rfl

theorem bit7E : Statement (.bit7E) := of_bytes (b := 0xCB) rfl rfl

theorem bit7H : Statement (.bit7H) := of_bytes (b := 0xCB) rfl rfl

theorem bit7L : Statement (.bit7L) := of_bytes (b := 0xCB) rfl rfl

theorem bit7AtHl : Statement (.bit7AtHl) := of_bytes (b := 0xCB) rfl rfl

theorem bit7A : Statement (.bit7A) := of_bytes (b := 0xCB) rfl rfl

theorem res0B : Statement (.res0B) := of_bytes (b := 0xCB) rfl rfl

theorem res0C : Statement (.res0C) := of_bytes (b := 0xCB) rfl rfl

theorem res0D : Statement (.res0D) := of_bytes (b := 0xCB) rfl rfl

theorem res0E : Statement (.res0E) := of_bytes (b := 0xCB) rfl rfl

theorem res0H : Statement (.res0H) := of_bytes (b := 0xCB) rfl rfl

theorem res0L : Statement (.res0L) := of_bytes (b := 0xCB) rfl rfl

theorem res0AtHl : Statement (.res0AtHl) := of_bytes (b := 0xCB) rfl rfl

theorem res0A : Statement (.res0A) := of_bytes (b := 0xCB) rfl rfl

theorem res1B : Statement (.res1B) := of_bytes (b := 0xCB) rfl rfl

theorem res1C : Statement (.res1C) := of_bytes (b := 0xCB) rfl rfl

theorem res1D : Statement (.res1D) := of_bytes (b := 0xCB) rfl rfl

theorem res1E : Statement (.res1E) := of_bytes (b := 0xCB) rfl rfl

theorem res1H : Statement (.res1H) := of_bytes (b := 0xCB) rfl rfl

theorem res1L : Statement (.res1L) := of_bytes (b := 0xCB) rfl rfl

theorem res1AtHl : Statement (.res1AtHl) := of_bytes (b := 0xCB) rfl rfl

theorem res1A : Statement (.res1A) := of_bytes (b := 0xCB) rfl rfl

theorem res2B : Statement (.res2B) := of_bytes (b := 0xCB) rfl rfl

theorem res2C : Statement (.res2C) := of_bytes (b := 0xCB) rfl rfl

theorem res2D : Statement (.res2D) := of_bytes (b := 0xCB) rfl rfl

theorem res2E : Statement (.res2E) := of_bytes (b := 0xCB) rfl rfl

theorem res2H : Statement (.res2H) := of_bytes (b := 0xCB) rfl rfl

theorem res2L : Statement (.res2L) := of_bytes (b := 0xCB) rfl rfl

theorem res2AtHl : Statement (.res2AtHl) := of_bytes (b := 0xCB) rfl rfl

theorem res2A : Statement (.res2A) := of_bytes (b := 0xCB) rfl rfl

theorem res3B : Statement (.res3B) := of_bytes (b := 0xCB) rfl rfl

theorem res3C : Statement (.res3C) := of_bytes (b := 0xCB) rfl rfl

theorem res3D : Statement (.res3D) := of_bytes (b := 0xCB) rfl rfl

theorem res3E : Statement (.res3E) := of_bytes (b := 0xCB) rfl rfl

theorem res3H : Statement (.res3H) := of_bytes (b := 0xCB) rfl rfl

theorem res3L : Statement (.res3L) := of_bytes (b := 0xCB) rfl rfl

theorem res3AtHl : Statement (.res3AtHl) := of_bytes (b := 0xCB) rfl rfl

theorem res3A : Statement (.res3A) := of_bytes (b := 0xCB) rfl rfl

theorem res4B : Statement (.res4B) := of_bytes (b := 0xCB) rfl rfl

theorem res4C : Statement (.res4C) := of_bytes (b := 0xCB) rfl rfl

theorem res4D : Statement (.res4D) := of_bytes (b := 0xCB) rfl rfl

theorem res4E : Statement (.res4E) := of_bytes (b := 0xCB) rfl rfl

theorem res4H : Statement (.res4H) := of_bytes (b := 0xCB) rfl rfl

theorem res4L : Statement (.res4L) := of_bytes (b := 0xCB) rfl rfl

theorem res4AtHl : Statement (.res4AtHl) := of_bytes (b := 0xCB) rfl rfl

theorem res4A : Statement (.res4A) := of_bytes (b := 0xCB) rfl rfl

theorem res5B : Statement (.res5B) := of_bytes (b := 0xCB) rfl rfl

theorem res5C : Statement (.res5C) := of_bytes (b := 0xCB) rfl rfl

theorem res5D : Statement (.res5D) := of_bytes (b := 0xCB) rfl rfl

theorem res5E : Statement (.res5E) := of_bytes (b := 0xCB) rfl rfl

theorem res5H : Statement (.res5H) := of_bytes (b := 0xCB) rfl rfl

theorem res5L : Statement (.res5L) := of_bytes (b := 0xCB) rfl rfl

theorem res5AtHl : Statement (.res5AtHl) := of_bytes (b := 0xCB) rfl rfl

theorem res5A : Statement (.res5A) := of_bytes (b := 0xCB) rfl rfl

theorem res6B : Statement (.res6B) := of_bytes (b := 0xCB) rfl rfl

theorem res6C : Statement (.res6C) := of_bytes (b := 0xCB) rfl rfl

theorem res6D : Statement (.res6D) := of_bytes (b := 0xCB) rfl rfl

theorem res6E : Statement (.res6E) := of_bytes (b := 0xCB) rfl rfl

theorem res6H : Statement (.res6H) := of_bytes (b := 0xCB) rfl rfl

theorem res6L : Statement (.res6L) := of_bytes (b := 0xCB) rfl rfl

theorem res6AtHl : Statement (.res6AtHl) := of_bytes (b := 0xCB) rfl rfl

theorem res6A : Statement (.res6A) := of_bytes (b := 0xCB) rfl rfl

theorem res7B : Statement (.res7B) := of_bytes (b := 0xCB) rfl rfl

theorem res7C : Statement (.res7C) := of_bytes (b := 0xCB) rfl rfl

theorem res7D : Statement (.res7D) := of_bytes (b := 0xCB) rfl rfl

theorem res7E : Statement (.res7E) := of_bytes (b := 0xCB) rfl rfl

theorem res7H : Statement (.res7H) := of_bytes (b := 0xCB) rfl rfl

theorem res7L : Statement (.res7L) := of_bytes (b := 0xCB) rfl rfl

theorem res7AtHl : Statement (.res7AtHl) := of_bytes (b := 0xCB) rfl rfl

theorem res7A : Statement (.res7A) := of_bytes (b := 0xCB) rfl rfl

theorem set0B : Statement (.set0B) := of_bytes (b := 0xCB) rfl rfl

theorem set0C : Statement (.set0C) := of_bytes (b := 0xCB) rfl rfl

theorem set0D : Statement (.set0D) := of_bytes (b := 0xCB) rfl rfl

theorem set0E : Statement (.set0E) := of_bytes (b := 0xCB) rfl rfl

theorem set0H : Statement (.set0H) := of_bytes (b := 0xCB) rfl rfl

theorem set0L : Statement (.set0L) := of_bytes (b := 0xCB) rfl rfl

theorem set0AtHl : Statement (.set0AtHl) := of_bytes (b := 0xCB) rfl rfl

theorem set0A : Statement (.set0A) := of_bytes (b := 0xCB) rfl rfl

theorem set1B : Statement (.set1B) := of_bytes (b := 0xCB) rfl rfl

theorem set1C : Statement (.set1C) := of_bytes (b := 0xCB) rfl rfl

theorem set1D : Statement (.set1D) := of_bytes (b := 0xCB) rfl rfl

theorem set1E : Statement (.set1E) := of_bytes (b := 0xCB) rfl rfl

theorem set1H : Statement (.set1H) := of_bytes (b := 0xCB) rfl rfl

theorem set1L : Statement (.set1L) := of_bytes (b := 0xCB) rfl rfl

theorem set1AtHl : Statement (.set1AtHl) := of_bytes (b := 0xCB) rfl rfl

theorem set1A : Statement (.set1A) := of_bytes (b := 0xCB) rfl rfl

theorem set2B : Statement (.set2B) := of_bytes (b := 0xCB) rfl rfl

theorem set2C : Statement (.set2C) := of_bytes (b := 0xCB) rfl rfl

theorem set2D : Statement (.set2D) := of_bytes (b := 0xCB) rfl rfl

theorem set2E : Statement (.set2E) := of_bytes (b := 0xCB) rfl rfl

theorem set2H : Statement (.set2H) := of_bytes (b := 0xCB) rfl rfl

theorem set2L : Statement (.set2L) := of_bytes (b := 0xCB) rfl rfl

theorem set2AtHl : Statement (.set2AtHl) := of_bytes (b := 0xCB) rfl rfl

theorem set2A : Statement (.set2A) := of_bytes (b := 0xCB) rfl rfl

theorem set3B : Statement (.set3B) := of_bytes (b := 0xCB) rfl rfl

theorem set3C : Statement (.set3C) := of_bytes (b := 0xCB) rfl rfl

theorem set3D : Statement (.set3D) := of_bytes (b := 0xCB) rfl rfl

theorem set3E : Statement (.set3E) := of_bytes (b := 0xCB) rfl rfl

theorem set3H : Statement (.set3H) := of_bytes (b := 0xCB) rfl rfl

theorem set3L : Statement (.set3L) := of_bytes (b := 0xCB) rfl rfl

theorem set3AtHl : Statement (.set3AtHl) := of_bytes (b := 0xCB) rfl rfl

theorem set3A : Statement (.set3A) := of_bytes (b := 0xCB) rfl rfl

theorem set4B : Statement (.set4B) := of_bytes (b := 0xCB) rfl rfl

theorem set4C : Statement (.set4C) := of_bytes (b := 0xCB) rfl rfl

theorem set4D : Statement (.set4D) := of_bytes (b := 0xCB) rfl rfl

theorem set4E : Statement (.set4E) := of_bytes (b := 0xCB) rfl rfl

theorem set4H : Statement (.set4H) := of_bytes (b := 0xCB) rfl rfl

theorem set4L : Statement (.set4L) := of_bytes (b := 0xCB) rfl rfl

theorem set4AtHl : Statement (.set4AtHl) := of_bytes (b := 0xCB) rfl rfl

theorem set4A : Statement (.set4A) := of_bytes (b := 0xCB) rfl rfl

theorem set5B : Statement (.set5B) := of_bytes (b := 0xCB) rfl rfl

theorem set5C : Statement (.set5C) := of_bytes (b := 0xCB) rfl rfl

theorem set5D : Statement (.set5D) := of_bytes (b := 0xCB) rfl rfl

theorem set5E : Statement (.set5E) := of_bytes (b := 0xCB) rfl rfl

theorem set5H : Statement (.set5H) := of_bytes (b := 0xCB) rfl rfl

theorem set5L : Statement (.set5L) := of_bytes (b := 0xCB) rfl rfl

theorem set5AtHl : Statement (.set5AtHl) := of_bytes (b := 0xCB) rfl rfl

theorem set5A : Statement (.set5A) := of_bytes (b := 0xCB) rfl rfl

theorem set6B : Statement (.set6B) := of_bytes (b := 0xCB) rfl rfl

theorem set6C : Statement (.set6C) := of_bytes (b := 0xCB) rfl rfl

theorem set6D : Statement (.set6D) := of_bytes (b := 0xCB) rfl rfl

theorem set6E : Statement (.set6E) := of_bytes (b := 0xCB) rfl rfl

theorem set6H : Statement (.set6H) := of_bytes (b := 0xCB) rfl rfl

theorem set6L : Statement (.set6L) := of_bytes (b := 0xCB) rfl rfl

theorem set6AtHl : Statement (.set6AtHl) := of_bytes (b := 0xCB) rfl rfl

theorem set6A : Statement (.set6A) := of_bytes (b := 0xCB) rfl rfl

theorem set7B : Statement (.set7B) := of_bytes (b := 0xCB) rfl rfl

theorem set7C : Statement (.set7C) := of_bytes (b := 0xCB) rfl rfl

theorem set7D : Statement (.set7D) := of_bytes (b := 0xCB) rfl rfl

theorem set7E : Statement (.set7E) := of_bytes (b := 0xCB) rfl rfl

theorem set7H : Statement (.set7H) := of_bytes (b := 0xCB) rfl rfl

theorem set7L : Statement (.set7L) := of_bytes (b := 0xCB) rfl rfl

theorem set7AtHl : Statement (.set7AtHl) := of_bytes (b := 0xCB) rfl rfl

theorem set7A : Statement (.set7A) := of_bytes (b := 0xCB) rfl rfl

theorem nop : Statement (.nop) := of_bytes (b := 0x00) rfl rfl

theorem stop : Statement (.stop) := of_bytes (b := 0x10) rfl rfl

theorem halt : Statement (.halt) := of_bytes (b := 0x76) rfl rfl

theorem di : Statement (.di) := of_bytes (b := 0xF3) rfl rfl

theorem ei : Statement (.ei) := of_bytes (b := 0xFB) rfl rfl

end Sys2Proof.Laws.Length
end

