-- ==== Sys2Proof/Laws/Regions.lean ====
section
/-! SUPPORT. The bus by its regions (spec 20_memory.md R63): what a read answers and what a write does at an
address of each kind, said once, so that no proof unfolds the seven components. -/

namespace Sys2Proof.Machine

theorem Timer.regRead_other {n : Nat} (t : Timer) (h : n < 0xFF04 ∨ 0xFF07 < n) : t.regRead n = none := by
  unfold Timer.regRead
  split <;> first | rfl | omega

theorem State.timerWrite_other {n : Nat} (v : Byte) (s : State) (h : n < 0xFF04 ∨ 0xFF07 < n) :
    s.timerWrite n v = s := by
  unfold State.timerWrite
  split <;> first | rfl | omega

theorem Lcd.regRead_other {n : Nat} (l : Lcd) (h : n < 0xFF40 ∨ 0xFF4B < n) : l.regRead n = none := by
  unfold Lcd.regRead
  split <;> first | rfl | omega

theorem State.lcdRegWrite_other {n : Nat} (v : Byte) (s : State) (h : n < 0xFF40 ∨ 0xFF4B < n) :
    s.lcdRegWrite n v = s := by
  unfold State.lcdRegWrite
  split <;> first | rfl | omega

theorem workRamPlace_other {n : Nat} (h : n < 0xC000 ∨ 0xFE00 ≤ n) : workRamPlace n = none := by
  unfold workRamPlace
  rw [if_neg (by omega), if_neg (by omega)]

/-- The place of a work RAM address, echo included. -/
theorem workRamPlace_inside {n : Nat} (h : 0xC000 ≤ n) (h' : n < 0xFE00) :
    workRamPlace n = some (if n < 0xE000 then n else n - 0x2000) := by
  unfold workRamPlace
  by_cases hn : n < 0xE000
  · rw [if_pos ⟨h, hn⟩, if_pos hn]
  · rw [if_neg (by omega), if_pos (by omega), if_neg hn]

theorem inCartridge_iff (n : Nat) : inCartridge n = true ↔ n < 0x8000 ∨ (0xA000 ≤ n ∧ n < 0xC000) := by
  simp [inCartridge]

theorem inLcdMemory_iff (n : Nat) :
    inLcdMemory n = true ↔ (0x8000 ≤ n ∧ n < 0xA000) ∨ (0xFE00 ≤ n ∧ n < 0xFEA0) := by
  simp [inLcdMemory]

theorem inHighRam_iff (n : Nat) : inHighRam n = true ↔ 0xFF80 ≤ n ∧ n < 0xFFFF := by
  simp [inHighRam]

/-- Outside the cartridge's window the boot ROM and the cartridge answer nothing, so the bus is the work RAM's,
the joypad's, the timer's, the LCD controller's and the CPU's answer. -/
theorem State.busRead_devices (s : State) {a : Word} (h : inCartridge a.toNat = false) :
    s.busRead a =
      ((Component.read s a .workRam <|> Component.read s a .joypad <|> Component.read s a .timer <|>
        Component.read s a .lcd <|> Component.read s a .cpu).getD Config.unmapped) := by
  have hb : Component.read s a .bootRom = none := by
    have hn : ¬ a.toNat < 0x100 := fun hlt => by
      rw [(inCartridge_iff _).mpr (.inl (by omega))] at h
      cases h
    simp [Component.read, hn]
  have hc : Component.read s a .cartridge = none := by simp [Component.read, h]
  unfold State.busRead busReadFrom busComponents
  simp only [List.findSome?, hb, hc]
  cases Component.read s a .workRam <;> cases Component.read s a .joypad <;>
    cases Component.read s a .timer <;> cases Component.read s a .lcd <;> cases Component.read s a .cpu <;> rfl

/-- Video RAM and OAM: a read answers the byte (R66, R67). -/
theorem State.busRead_lcdMemory (s : State) {a : Word} (h : inLcdMemory a.toNat = true) :
    s.busRead a = Mem.read s.mem a.toNat := by
  have h' := (inLcdMemory_iff _).mp h
  have hc : inCartridge a.toNat = false := by
    rw [Bool.eq_false_iff, Ne, inCartridge_iff]; omega
  rw [s.busRead_devices hc]
  have hj : ¬ a.toNat = 0xFF00 := by omega
  simp [Component.read, workRamPlace_other (n := a.toNat) (by omega), Timer.regRead_other s.timer (n := a.toNat) (by omega),
    hj, h]

/-- Work RAM and its echo: a read answers the byte of the place (R68). -/
theorem State.busRead_workRam (s : State) {a : Word} (h : 0xC000 ≤ a.toNat) (h' : a.toNat < 0xFE00) :
    s.busRead a = Mem.read s.mem (if a.toNat < 0xE000 then a.toNat else a.toNat - 0x2000) := by
  have hc : inCartridge a.toNat = false := by
    rw [Bool.eq_false_iff, Ne, inCartridge_iff]; omega
  rw [s.busRead_devices hc]
  simp [Component.read, workRamPlace_inside h h']

/-- High RAM: a read answers the byte (R69). -/
theorem State.busRead_highRam (s : State) {a : Word} (h : inHighRam a.toNat = true) :
    s.busRead a = Mem.read s.mem a.toNat := by
  have h' := (inHighRam_iff _).mp h
  have hc : inCartridge a.toNat = false := by
    rw [Bool.eq_false_iff, Ne, inCartridge_iff]; omega
  have hl : inLcdMemory a.toNat = false := by
    rw [Bool.eq_false_iff, Ne, inLcdMemory_iff]; omega
  rw [s.busRead_devices hc]
  have hj : ¬ a.toNat = 0xFF00 := by omega
  simp [Component.read, workRamPlace_other (n := a.toNat) (by omega), Timer.regRead_other s.timer (n := a.toNat) (by omega),
    Lcd.regRead_other s.lcd (n := a.toNat) (by omega), hj, hl, h]

/-- Video RAM and OAM: a write stores the byte and nothing else (R66, R67). -/
theorem State.busWrite_lcdMemory (v : Byte) (s : State) {a : Word} (h : inLcdMemory a.toNat = true) :
    s.busWrite a v = s.poke a.toNat v := by
  have h' := (inLcdMemory_iff _).mp h
  have hc : inCartridge a.toNat = false := by
    rw [Bool.eq_false_iff, Ne, inCartridge_iff]; omega
  have hh : inHighRam a.toNat = false := by
    rw [Bool.eq_false_iff, Ne, inHighRam_iff]; omega
  have e1 : ¬ a.toNat = 0xFF50 := by omega
  have e2 : ¬ a.toNat = 0xFF00 := by omega
  have e3 : ¬ a.toNat = 0xFF0F := by omega
  have e4 : ¬ a.toNat = 0xFFFF := by omega
  have ht : ∀ t : State, t.timerWrite a.toNat v = t := fun t => t.timerWrite_other v (by omega)
  simp [State.busWrite, busWriteTo, busComponents, Component.write, workRamPlace_other (n := a.toNat) (by omega), ht,
    hc, hh, h, e1, e2, e3, e4]

/-- High RAM: a write stores the byte and nothing else (R69). -/
theorem State.busWrite_highRam (v : Byte) (s : State) {a : Word} (h : inHighRam a.toNat = true) :
    s.busWrite a v = s.poke a.toNat v := by
  have h' := (inHighRam_iff _).mp h
  have hc : inCartridge a.toNat = false := by
    rw [Bool.eq_false_iff, Ne, inCartridge_iff]; omega
  have hl : inLcdMemory a.toNat = false := by
    rw [Bool.eq_false_iff, Ne, inLcdMemory_iff]; omega
  have e1 : ¬ a.toNat = 0xFF50 := by omega
  have e2 : ¬ a.toNat = 0xFF00 := by omega
  have ht : ∀ t : State, t.timerWrite a.toNat v = t := fun t => t.timerWrite_other v (by omega)
  have hr : ∀ t : State, t.lcdRegWrite a.toNat v = t := fun t => t.lcdRegWrite_other v (by omega)
  simp [State.busWrite, busWriteTo, busComponents, Component.write, workRamPlace_other (n := a.toNat) (by omega), ht,
    hr, hc, hl, h, e1, e2]

/-- Work RAM and its echo: a write stores the byte at the place and nothing else (R68). -/
theorem State.busWrite_workRam (v : Byte) (s : State) {a : Word} (h : 0xC000 ≤ a.toNat) (h' : a.toNat < 0xFE00) :
    s.busWrite a v = s.poke (if a.toNat < 0xE000 then a.toNat else a.toNat - 0x2000) v := by
  have hc : inCartridge a.toNat = false := by
    rw [Bool.eq_false_iff, Ne, inCartridge_iff]; omega
  have hl : inLcdMemory a.toNat = false := by
    rw [Bool.eq_false_iff, Ne, inLcdMemory_iff]; omega
  have hh : inHighRam a.toNat = false := by
    rw [Bool.eq_false_iff, Ne, inHighRam_iff]; omega
  have e1 : ¬ a.toNat = 0xFF50 := by omega
  have e2 : ¬ a.toNat = 0xFF00 := by omega
  have e3 : ¬ a.toNat = 0xFF0F := by omega
  have e4 : ¬ a.toNat = 0xFFFF := by omega
  have ht : ∀ t : State, t.timerWrite a.toNat v = t := fun t => t.timerWrite_other v (by omega)
  have hr : ∀ t : State, t.lcdRegWrite a.toNat v = t := fun t => t.lcdRegWrite_other v (by omega)
  simp [State.busWrite, busWriteTo, busComponents, Component.write, workRamPlace_inside h h', ht, hr, hc, hl, hh, e1,
    e2, e3, e4]

/-- A write to the cartridge's window reaches the cartridge alone (R64). -/
theorem State.busWrite_cartridge (v : Byte) (s : State) {a : Word} (h : inCartridge a.toNat = true) :
    s.busWrite a v = s.cartridgeWrite a v := by
  have h' := (inCartridge_iff _).mp h
  have hl : inLcdMemory a.toNat = false := by
    rw [Bool.eq_false_iff, Ne, inLcdMemory_iff]; omega
  have hh : inHighRam a.toNat = false := by
    rw [Bool.eq_false_iff, Ne, inHighRam_iff]; omega
  have e1 : ¬ a.toNat = 0xFF50 := by omega
  have e2 : ¬ a.toNat = 0xFF00 := by omega
  have e3 : ¬ a.toNat = 0xFF0F := by omega
  have e4 : ¬ a.toNat = 0xFFFF := by omega
  have ht : ∀ t : State, t.timerWrite a.toNat v = t := fun t => t.timerWrite_other v (by omega)
  have hr : ∀ t : State, t.lcdRegWrite a.toNat v = t := fun t => t.lcdRegWrite_other v (by omega)
  simp [State.busWrite, busWriteTo, busComponents, Component.write, workRamPlace_other (n := a.toNat) (by omega), ht, hr,
    h, hl, hh, e1, e2, e3, e4]

/-- A write to an I/O register: only the device that owns the address takes it (R63). -/
theorem State.busWrite_register (v : Byte) (s : State) {a : Word} (h : 0xFEA0 ≤ a.toNat) (h' : inHighRam a.toNat = false) :
    s.busWrite a v =
      (if a.toNat = 0xFF50 then { s with bootRomEnabled := false }
      else if a.toNat = 0xFF00 then { s with joypad := s.joypad ++ [.write v] }
      else if a.toNat = 0xFF0F then { s with iflag := v }
      else if a.toNat = 0xFFFF then { s with ie := v }
      else if a.toNat < 0xFF40 then s.timerWrite a.toNat v
      else s.lcdRegWrite a.toNat v) := by
  have hc : inCartridge a.toNat = false := by
    rw [Bool.eq_false_iff, Ne, inCartridge_iff]; omega
  have hl : inLcdMemory a.toNat = false := by
    rw [Bool.eq_false_iff, Ne, inLcdMemory_iff]; omega
  have hw : workRamPlace a.toNat = none := workRamPlace_other (.inr (by omega))
  by_cases e1 : a.toNat = 0xFF50
  · simp [State.busWrite, busWriteTo, busComponents, Component.write, workRamPlace, inCartridge, inLcdMemory, inHighRam,
      State.timerWrite, State.lcdRegWrite, e1]
  by_cases e2 : a.toNat = 0xFF00
  · simp [State.busWrite, busWriteTo, busComponents, Component.write, workRamPlace, inCartridge, inLcdMemory, inHighRam,
      State.timerWrite, State.lcdRegWrite, e2]
  by_cases e3 : a.toNat = 0xFF0F
  · simp [State.busWrite, busWriteTo, busComponents, Component.write, workRamPlace, inCartridge, inLcdMemory, inHighRam,
      State.timerWrite, State.lcdRegWrite, e3]
  by_cases e4 : a.toNat = 0xFFFF
  · simp [State.busWrite, busWriteTo, busComponents, Component.write, workRamPlace, inCartridge, inLcdMemory, inHighRam,
      State.timerWrite, State.lcdRegWrite, e4]
  by_cases e5 : a.toNat < 0xFF40
  · have hr : ∀ t : State, t.lcdRegWrite a.toNat v = t := fun t => t.lcdRegWrite_other v (by omega)
    simp [State.busWrite, busWriteTo, busComponents, Component.write, hw, hc, hl, h', hr, e1, e2, e3, e4, e5]
  · have ht : ∀ t : State, t.timerWrite a.toNat v = t := fun t => t.timerWrite_other v (by omega)
    simp [State.busWrite, busWriteTo, busComponents, Component.write, hw, hc, hl, h', ht, e1, e2, e3, e4, e5]

end Sys2Proof.Machine
end

