-- ==== Sys2Proof/Tests/Slice0.lean ====
section
/-! SUPPORT. The model's own tests. Expected results come from spec 95_test_vectors.md (the identifier in a
test's name), from the encodings of spec/opcode_table.json (its column `encoding`), or from the rule cited.
The theorems `witness_<Obligation>` show, for each obligation with hypotheses, a concrete state and operands
that meet them. -/

namespace Sys2Proof.Tests

open Sys2Proof.Machine Sys2Proof.Rules

/-! ### Which instructions are well formed (R84, R96) -/

/-- A byte that has an instruction is no `illegal` one (R96). -/
theorem test_wellFormed_refuses_illegal_00 : (Instr.illegal 0x00).wellFormed = false := by decide

/-- The prefix is no instruction of its own (R84). -/
theorem test_wellFormed_refuses_prefix : (Instr.prefixCb 0x00).wellFormed = false := by decide

/-- All 11 illegal bytes are accepted (R96). -/
theorem test_wellFormed_accepts_illegals :
    [0xD3, 0xDB, 0xDD, 0xE3, 0xE4, 0xEB, 0xEC, 0xED, 0xF4, 0xFC, 0xFD].all
      (fun b => (Instr.illegal b).wellFormed) = true := by decide

/-! ### Decoding, every constructor, by the words of the opcode table's column `encoding` (R94, R95), with the
operand bytes 0x34 and 0x12 (n16 = 0x1234 low byte first, R93) -/

/-- Whether each first byte, followed by 0x34 and 0x12, decodes to the instruction beside it, with that length. -/
def decodesTo (length : Nat) (rows : List (Byte × Instr)) : Bool :=
  rows.all (fun r => decode3 r.1 0x34 0x12 == r.2 && opcodeLength r.1 == length)

/-- Whether each second byte after 0xCB decodes to the instruction beside it. -/
def decodesAfterCb (rows : List (Byte × Instr)) : Bool :=
  rows.all (fun r => decode3 0xCB r.1 0x12 == r.2)

/-- Bytes `00......` of length 1 (R94). -/
theorem test_decode_direct_q0_length1_0 : decodesTo 1
    [(0b00000000, .nop), (0b00000010, .ldAtBcA), (0b00000011, .incBc), (0b00000100, .incB),
      (0b00000101, .decB), (0b00000111, .rlca), (0b00001001, .addHlBc), (0b00001010, .ldAAtBc),
      (0b00001011, .decBc), (0b00001100, .incC), (0b00001101, .decC), (0b00001111, .rrca),
      (0b00010010, .ldAtDeA), (0b00010011, .incDe), (0b00010100, .incD), (0b00010101, .decD),
      (0b00010111, .rla), (0b00011001, .addHlDe), (0b00011010, .ldAAtDe), (0b00011011, .decDe)] = true := by decide

/-- Bytes `00......` of length 1 (R94). -/
theorem test_decode_direct_q0_length1_1 : decodesTo 1
    [(0b00011100, .incE), (0b00011101, .decE), (0b00011111, .rra), (0b00100010, .ldAtHliA),
      (0b00100011, .incHl), (0b00100100, .incH), (0b00100101, .decH), (0b00100111, .daa),
      (0b00101001, .addHlHl), (0b00101010, .ldAAtHli), (0b00101011, .decHl), (0b00101100, .incL),
      (0b00101101, .decL), (0b00101111, .cpl), (0b00110010, .ldAtHldA), (0b00110011, .incSp),
      (0b00110100, .incAtHl), (0b00110101, .decAtHl), (0b00110111, .scf), (0b00111001, .addHlSp)] = true := by decide

/-- Bytes `00......` of length 1 (R94). -/
theorem test_decode_direct_q0_length1_2 : decodesTo 1
    [(0b00111010, .ldAAtHld), (0b00111011, .decSp), (0b00111100, .incA), (0b00111101, .decA),
      (0b00111111, .ccf)] = true := by decide

/-- Bytes `00......` of length 2 (R94). -/
theorem test_decode_direct_q0_length2_0 : decodesTo 2
    [(0b00000110, .ldBN8 0x34), (0b00001110, .ldCN8 0x34), (0b00010000, .stop), (0b00010110, .ldDN8 0x34),
      (0b00011000, .jrE8 0x34), (0b00011110, .ldEN8 0x34), (0b00100000, .jrNzE8 0x34),
      (0b00100110, .ldHN8 0x34), (0b00101000, .jrZE8 0x34), (0b00101110, .ldLN8 0x34),
      (0b00110000, .jrNcE8 0x34), (0b00110110, .ldAtHlN8 0x34), (0b00111000, .jrCE8 0x34),
      (0b00111110, .ldAN8 0x34)] = true := by decide

/-- Bytes `00......` of length 3 (R94). -/
theorem test_decode_direct_q0_length3_0 : decodesTo 3
    [(0b00000001, .ldBcN16 0x1234), (0b00001000, .ldAtN16Sp 0x1234), (0b00010001, .ldDeN16 0x1234),
      (0b00100001, .ldHlN16 0x1234), (0b00110001, .ldSpN16 0x1234)] = true := by decide

/-- Bytes `01......` of length 1 (R94). -/
theorem test_decode_direct_q1_length1_0 : decodesTo 1
    [(0b01000000, .ldBB), (0b01000001, .ldBC), (0b01000010, .ldBD), (0b01000011, .ldBE), (0b01000100, .ldBH),
      (0b01000101, .ldBL), (0b01000110, .ldBAtHl), (0b01000111, .ldBA), (0b01001000, .ldCB),
      (0b01001001, .ldCC), (0b01001010, .ldCD), (0b01001011, .ldCE), (0b01001100, .ldCH), (0b01001101, .ldCL),
      (0b01001110, .ldCAtHl), (0b01001111, .ldCA), (0b01010000, .ldDB), (0b01010001, .ldDC),
      (0b01010010, .ldDD), (0b01010011, .ldDE)] = true := by decide

/-- Bytes `01......` of length 1 (R94). -/
theorem test_decode_direct_q1_length1_1 : decodesTo 1
    [(0b01010100, .ldDH), (0b01010101, .ldDL), (0b01010110, .ldDAtHl), (0b01010111, .ldDA),
      (0b01011000, .ldEB), (0b01011001, .ldEC), (0b01011010, .ldED), (0b01011011, .ldEE), (0b01011100, .ldEH),
      (0b01011101, .ldEL), (0b01011110, .ldEAtHl), (0b01011111, .ldEA), (0b01100000, .ldHB),
      (0b01100001, .ldHC), (0b01100010, .ldHD), (0b01100011, .ldHE), (0b01100100, .ldHH), (0b01100101, .ldHL),
      (0b01100110, .ldHAtHl), (0b01100111, .ldHA)] = true := by decide

/-- Bytes `01......` of length 1 (R94). -/
theorem test_decode_direct_q1_length1_2 : decodesTo 1
    [(0b01101000, .ldLB), (0b01101001, .ldLC), (0b01101010, .ldLD), (0b01101011, .ldLE), (0b01101100, .ldLH),
      (0b01101101, .ldLL), (0b01101110, .ldLAtHl), (0b01101111, .ldLA), (0b01110000, .ldAtHlB),
      (0b01110001, .ldAtHlC), (0b01110010, .ldAtHlD), (0b01110011, .ldAtHlE), (0b01110100, .ldAtHlH),
      (0b01110101, .ldAtHlL), (0b01110110, .halt), (0b01110111, .ldAtHlA), (0b01111000, .ldAB),
      (0b01111001, .ldAC), (0b01111010, .ldAD), (0b01111011, .ldAE)] = true := by decide

/-- Bytes `01......` of length 1 (R94). -/
theorem test_decode_direct_q1_length1_3 : decodesTo 1
    [(0b01111100, .ldAH), (0b01111101, .ldAL), (0b01111110, .ldAAtHl), (0b01111111, .ldAA)] = true := by decide

/-- Bytes `10......` of length 1 (R94). -/
theorem test_decode_direct_q2_length1_0 : decodesTo 1
    [(0b10000000, .addAB), (0b10000001, .addAC), (0b10000010, .addAD), (0b10000011, .addAE),
      (0b10000100, .addAH), (0b10000101, .addAL), (0b10000110, .addAAtHl), (0b10000111, .addAA),
      (0b10001000, .adcAB), (0b10001001, .adcAC), (0b10001010, .adcAD), (0b10001011, .adcAE),
      (0b10001100, .adcAH), (0b10001101, .adcAL), (0b10001110, .adcAAtHl), (0b10001111, .adcAA),
      (0b10010000, .subAB), (0b10010001, .subAC), (0b10010010, .subAD), (0b10010011, .subAE)] = true := by decide

/-- Bytes `10......` of length 1 (R94). -/
theorem test_decode_direct_q2_length1_1 : decodesTo 1
    [(0b10010100, .subAH), (0b10010101, .subAL), (0b10010110, .subAAtHl), (0b10010111, .subAA),
      (0b10011000, .sbcAB), (0b10011001, .sbcAC), (0b10011010, .sbcAD), (0b10011011, .sbcAE),
      (0b10011100, .sbcAH), (0b10011101, .sbcAL), (0b10011110, .sbcAAtHl), (0b10011111, .sbcAA),
      (0b10100000, .andAB), (0b10100001, .andAC), (0b10100010, .andAD), (0b10100011, .andAE),
      (0b10100100, .andAH), (0b10100101, .andAL), (0b10100110, .andAAtHl), (0b10100111, .andAA)] = true := by decide

/-- Bytes `10......` of length 1 (R94). -/
theorem test_decode_direct_q2_length1_2 : decodesTo 1
    [(0b10101000, .xorAB), (0b10101001, .xorAC), (0b10101010, .xorAD), (0b10101011, .xorAE),
      (0b10101100, .xorAH), (0b10101101, .xorAL), (0b10101110, .xorAAtHl), (0b10101111, .xorAA),
      (0b10110000, .orAB), (0b10110001, .orAC), (0b10110010, .orAD), (0b10110011, .orAE), (0b10110100, .orAH),
      (0b10110101, .orAL), (0b10110110, .orAAtHl), (0b10110111, .orAA), (0b10111000, .cpAB),
      (0b10111001, .cpAC), (0b10111010, .cpAD), (0b10111011, .cpAE)] = true := by decide

/-- Bytes `10......` of length 1 (R94). -/
theorem test_decode_direct_q2_length1_3 : decodesTo 1
    [(0b10111100, .cpAH), (0b10111101, .cpAL), (0b10111110, .cpAAtHl), (0b10111111, .cpAA)] = true := by decide

/-- Bytes `11......` of length 1 (R94). -/
theorem test_decode_direct_q3_length1_0 : decodesTo 1
    [(0b11000000, .retNz), (0b11000001, .popBc), (0b11000101, .pushBc), (0b11000111, .rst00),
      (0b11001000, .retZ), (0b11001001, .ret), (0b11001111, .rst08), (0b11010000, .retNc),
      (0b11010001, .popDe), (0b11010011, .illegal 0xD3), (0b11010101, .pushDe), (0b11010111, .rst10),
      (0b11011000, .retC), (0b11011001, .reti), (0b11011011, .illegal 0xDB), (0b11011101, .illegal 0xDD),
      (0b11011111, .rst18), (0b11100001, .popHl), (0b11100010, .ldhAtCA), (0b11100011, .illegal 0xE3)] = true := by decide

/-- Bytes `11......` of length 1 (R94). -/
theorem test_decode_direct_q3_length1_1 : decodesTo 1
    [(0b11100100, .illegal 0xE4), (0b11100101, .pushHl), (0b11100111, .rst20), (0b11101001, .jpHl),
      (0b11101011, .illegal 0xEB), (0b11101100, .illegal 0xEC), (0b11101101, .illegal 0xED),
      (0b11101111, .rst28), (0b11110001, .popAf), (0b11110010, .ldhAAtC), (0b11110011, .di),
      (0b11110100, .illegal 0xF4), (0b11110101, .pushAf), (0b11110111, .rst30), (0b11111001, .ldSpHl),
      (0b11111011, .ei), (0b11111100, .illegal 0xFC), (0b11111101, .illegal 0xFD), (0b11111111, .rst38)] = true := by decide

/-- Bytes `11......` of length 2 (R94). -/
theorem test_decode_direct_q3_length2_0 : decodesTo 2
    [(0b11000110, .addAN8 0x34), (0b11001110, .adcAN8 0x34), (0b11010110, .subAN8 0x34),
      (0b11011110, .sbcAN8 0x34), (0b11100000, .ldhAtN8A 0x34), (0b11100110, .andAN8 0x34),
      (0b11101000, .addSpE8 0x34), (0b11101110, .xorAN8 0x34), (0b11110000, .ldhAAtN8 0x34),
      (0b11110110, .orAN8 0x34), (0b11111000, .ldHlSpE8 0x34), (0b11111110, .cpAN8 0x34)] = true := by decide

/-- Bytes `11......` of length 3 (R94). -/
theorem test_decode_direct_q3_length3_0 : decodesTo 3
    [(0b11000010, .jpNzN16 0x1234), (0b11000011, .jpN16 0x1234), (0b11000100, .callNzN16 0x1234),
      (0b11001010, .jpZN16 0x1234), (0b11001100, .callZN16 0x1234), (0b11001101, .callN16 0x1234),
      (0b11010010, .jpNcN16 0x1234), (0b11010100, .callNcN16 0x1234), (0b11011010, .jpCN16 0x1234),
      (0b11011100, .callCN16 0x1234), (0b11101010, .ldAtN16A 0x1234), (0b11111010, .ldAAtN16 0x1234)] = true := by decide

/-- Second bytes `000.....` after 0xCB (R95). -/
theorem test_decode_prefixed_000_0 : decodesAfterCb
    [(0b00000000, .rlcB), (0b00000001, .rlcC), (0b00000010, .rlcD), (0b00000011, .rlcE), (0b00000100, .rlcH),
      (0b00000101, .rlcL), (0b00000110, .rlcAtHl), (0b00000111, .rlcA), (0b00001000, .rrcB),
      (0b00001001, .rrcC), (0b00001010, .rrcD), (0b00001011, .rrcE), (0b00001100, .rrcH), (0b00001101, .rrcL),
      (0b00001110, .rrcAtHl), (0b00001111, .rrcA), (0b00010000, .rlB), (0b00010001, .rlC), (0b00010010, .rlD),
      (0b00010011, .rlE)] = true := by decide

/-- Second bytes `000.....` after 0xCB (R95). -/
theorem test_decode_prefixed_000_1 : decodesAfterCb
    [(0b00010100, .rlH), (0b00010101, .rlL), (0b00010110, .rlAtHl), (0b00010111, .rlA), (0b00011000, .rrB),
      (0b00011001, .rrC), (0b00011010, .rrD), (0b00011011, .rrE), (0b00011100, .rrH), (0b00011101, .rrL),
      (0b00011110, .rrAtHl), (0b00011111, .rrA)] = true := by decide

/-- Second bytes `001.....` after 0xCB (R95). -/
theorem test_decode_prefixed_001_0 : decodesAfterCb
    [(0b00100000, .slaB), (0b00100001, .slaC), (0b00100010, .slaD), (0b00100011, .slaE), (0b00100100, .slaH),
      (0b00100101, .slaL), (0b00100110, .slaAtHl), (0b00100111, .slaA), (0b00101000, .sraB),
      (0b00101001, .sraC), (0b00101010, .sraD), (0b00101011, .sraE), (0b00101100, .sraH), (0b00101101, .sraL),
      (0b00101110, .sraAtHl), (0b00101111, .sraA), (0b00110000, .swapB), (0b00110001, .swapC),
      (0b00110010, .swapD), (0b00110011, .swapE)] = true := by decide

/-- Second bytes `001.....` after 0xCB (R95). -/
theorem test_decode_prefixed_001_1 : decodesAfterCb
    [(0b00110100, .swapH), (0b00110101, .swapL), (0b00110110, .swapAtHl), (0b00110111, .swapA),
      (0b00111000, .srlB), (0b00111001, .srlC), (0b00111010, .srlD), (0b00111011, .srlE), (0b00111100, .srlH),
      (0b00111101, .srlL), (0b00111110, .srlAtHl), (0b00111111, .srlA)] = true := by decide

/-- Second bytes `010.....` after 0xCB (R95). -/
theorem test_decode_prefixed_010_0 : decodesAfterCb
    [(0b01000000, .bit0B), (0b01000001, .bit0C), (0b01000010, .bit0D), (0b01000011, .bit0E),
      (0b01000100, .bit0H), (0b01000101, .bit0L), (0b01000110, .bit0AtHl), (0b01000111, .bit0A),
      (0b01001000, .bit1B), (0b01001001, .bit1C), (0b01001010, .bit1D), (0b01001011, .bit1E),
      (0b01001100, .bit1H), (0b01001101, .bit1L), (0b01001110, .bit1AtHl), (0b01001111, .bit1A),
      (0b01010000, .bit2B), (0b01010001, .bit2C), (0b01010010, .bit2D), (0b01010011, .bit2E)] = true := by decide

/-- Second bytes `010.....` after 0xCB (R95). -/
theorem test_decode_prefixed_010_1 : decodesAfterCb
    [(0b01010100, .bit2H), (0b01010101, .bit2L), (0b01010110, .bit2AtHl), (0b01010111, .bit2A),
      (0b01011000, .bit3B), (0b01011001, .bit3C), (0b01011010, .bit3D), (0b01011011, .bit3E),
      (0b01011100, .bit3H), (0b01011101, .bit3L), (0b01011110, .bit3AtHl), (0b01011111, .bit3A)] = true := by decide

/-- Second bytes `011.....` after 0xCB (R95). -/
theorem test_decode_prefixed_011_0 : decodesAfterCb
    [(0b01100000, .bit4B), (0b01100001, .bit4C), (0b01100010, .bit4D), (0b01100011, .bit4E),
      (0b01100100, .bit4H), (0b01100101, .bit4L), (0b01100110, .bit4AtHl), (0b01100111, .bit4A),
      (0b01101000, .bit5B), (0b01101001, .bit5C), (0b01101010, .bit5D), (0b01101011, .bit5E),
      (0b01101100, .bit5H), (0b01101101, .bit5L), (0b01101110, .bit5AtHl), (0b01101111, .bit5A),
      (0b01110000, .bit6B), (0b01110001, .bit6C), (0b01110010, .bit6D), (0b01110011, .bit6E)] = true := by decide

/-- Second bytes `011.....` after 0xCB (R95). -/
theorem test_decode_prefixed_011_1 : decodesAfterCb
    [(0b01110100, .bit6H), (0b01110101, .bit6L), (0b01110110, .bit6AtHl), (0b01110111, .bit6A),
      (0b01111000, .bit7B), (0b01111001, .bit7C), (0b01111010, .bit7D), (0b01111011, .bit7E),
      (0b01111100, .bit7H), (0b01111101, .bit7L), (0b01111110, .bit7AtHl), (0b01111111, .bit7A)] = true := by decide

/-- Second bytes `100.....` after 0xCB (R95). -/
theorem test_decode_prefixed_100_0 : decodesAfterCb
    [(0b10000000, .res0B), (0b10000001, .res0C), (0b10000010, .res0D), (0b10000011, .res0E),
      (0b10000100, .res0H), (0b10000101, .res0L), (0b10000110, .res0AtHl), (0b10000111, .res0A),
      (0b10001000, .res1B), (0b10001001, .res1C), (0b10001010, .res1D), (0b10001011, .res1E),
      (0b10001100, .res1H), (0b10001101, .res1L), (0b10001110, .res1AtHl), (0b10001111, .res1A),
      (0b10010000, .res2B), (0b10010001, .res2C), (0b10010010, .res2D), (0b10010011, .res2E)] = true := by decide

/-- Second bytes `100.....` after 0xCB (R95). -/
theorem test_decode_prefixed_100_1 : decodesAfterCb
    [(0b10010100, .res2H), (0b10010101, .res2L), (0b10010110, .res2AtHl), (0b10010111, .res2A),
      (0b10011000, .res3B), (0b10011001, .res3C), (0b10011010, .res3D), (0b10011011, .res3E),
      (0b10011100, .res3H), (0b10011101, .res3L), (0b10011110, .res3AtHl), (0b10011111, .res3A)] = true := by decide

/-- Second bytes `101.....` after 0xCB (R95). -/
theorem test_decode_prefixed_101_0 : decodesAfterCb
    [(0b10100000, .res4B), (0b10100001, .res4C), (0b10100010, .res4D), (0b10100011, .res4E),
      (0b10100100, .res4H), (0b10100101, .res4L), (0b10100110, .res4AtHl), (0b10100111, .res4A),
      (0b10101000, .res5B), (0b10101001, .res5C), (0b10101010, .res5D), (0b10101011, .res5E),
      (0b10101100, .res5H), (0b10101101, .res5L), (0b10101110, .res5AtHl), (0b10101111, .res5A),
      (0b10110000, .res6B), (0b10110001, .res6C), (0b10110010, .res6D), (0b10110011, .res6E)] = true := by decide

/-- Second bytes `101.....` after 0xCB (R95). -/
theorem test_decode_prefixed_101_1 : decodesAfterCb
    [(0b10110100, .res6H), (0b10110101, .res6L), (0b10110110, .res6AtHl), (0b10110111, .res6A),
      (0b10111000, .res7B), (0b10111001, .res7C), (0b10111010, .res7D), (0b10111011, .res7E),
      (0b10111100, .res7H), (0b10111101, .res7L), (0b10111110, .res7AtHl), (0b10111111, .res7A)] = true := by decide

/-- Second bytes `110.....` after 0xCB (R95). -/
theorem test_decode_prefixed_110_0 : decodesAfterCb
    [(0b11000000, .set0B), (0b11000001, .set0C), (0b11000010, .set0D), (0b11000011, .set0E),
      (0b11000100, .set0H), (0b11000101, .set0L), (0b11000110, .set0AtHl), (0b11000111, .set0A),
      (0b11001000, .set1B), (0b11001001, .set1C), (0b11001010, .set1D), (0b11001011, .set1E),
      (0b11001100, .set1H), (0b11001101, .set1L), (0b11001110, .set1AtHl), (0b11001111, .set1A),
      (0b11010000, .set2B), (0b11010001, .set2C), (0b11010010, .set2D), (0b11010011, .set2E)] = true := by decide

/-- Second bytes `110.....` after 0xCB (R95). -/
theorem test_decode_prefixed_110_1 : decodesAfterCb
    [(0b11010100, .set2H), (0b11010101, .set2L), (0b11010110, .set2AtHl), (0b11010111, .set2A),
      (0b11011000, .set3B), (0b11011001, .set3C), (0b11011010, .set3D), (0b11011011, .set3E),
      (0b11011100, .set3H), (0b11011101, .set3L), (0b11011110, .set3AtHl), (0b11011111, .set3A)] = true := by decide

/-- Second bytes `111.....` after 0xCB (R95). -/
theorem test_decode_prefixed_111_0 : decodesAfterCb
    [(0b11100000, .set4B), (0b11100001, .set4C), (0b11100010, .set4D), (0b11100011, .set4E),
      (0b11100100, .set4H), (0b11100101, .set4L), (0b11100110, .set4AtHl), (0b11100111, .set4A),
      (0b11101000, .set5B), (0b11101001, .set5C), (0b11101010, .set5D), (0b11101011, .set5E),
      (0b11101100, .set5H), (0b11101101, .set5L), (0b11101110, .set5AtHl), (0b11101111, .set5A),
      (0b11110000, .set6B), (0b11110001, .set6C), (0b11110010, .set6D), (0b11110011, .set6E)] = true := by decide

/-- Second bytes `111.....` after 0xCB (R95). -/
theorem test_decode_prefixed_111_1 : decodesAfterCb
    [(0b11110100, .set6H), (0b11110101, .set6L), (0b11110110, .set6AtHl), (0b11110111, .set6A),
      (0b11111000, .set7B), (0b11111001, .set7C), (0b11111010, .set7D), (0b11111011, .set7E),
      (0b11111100, .set7H), (0b11111101, .set7L), (0b11111110, .set7AtHl), (0b11111111, .set7A)] = true := by decide

/-! ### Lengths, refusals and errors of the decoder; the opcode table's own numbers -/

/-- No byte, half a prefixed instruction, half an operand (R84, R86). -/
theorem test_decode_refuses_short :
    decode [] = .error .noOpcode ∧ decode [0xCB] = .error .noSecondOpcode ∧
    decode [0x01, 0x34] = .error (.missingOperand 0x01) ∧ decode [0x3E] = .error (.missingOperand 0x3E) :=
  ⟨rfl, rfl, rfl, rfl⟩

/-- EN3, EN4: `CB 7C` is BIT 7,H and `CB 36` is SWAP (HL); `76` is HALT (EN1). -/
theorem test_EN : decode3 0x76 0 0 = .halt ∧ decode3 0xCB 0x7C 0 = .bit7H ∧ decode3 0xCB 0x36 0 = .swapAtHl :=
  ⟨rfl, rfl, rfl⟩

/-- The table numbers a one-byte row by its byte and a prefixed row with 0xCB in bits 15..8 (its column
`match`; log entry 7). -/
theorem test_table_numbers :
    decodeTableWord 8 0x08 = some (.ldAtN16Sp 0) ∧ decodeTableWord 16 0xCB2C = some .sraH ∧
    decodeTableWord 24 0x123401 = some (.ldBcN16 0x1234) := ⟨rfl, rfl, rfl⟩

/-! ### One instruction from a small state -/

/-- Reset with these bytes at PC, made ready to run (log entry 8), after a setup. -/
def placed (pc : Word) (bytes : List Byte) (setup : State → State) : State :=
  State.withBytesAtPc bytes (setup { State.reset with pc := pc })

/-- Whether an outcome is a next state that is as expected. -/
def nextIs (o : Host.Outcome State Fault Refusal) (good : State → Bool) : Bool :=
  match o with
  | .next t => good t
  | .fault _ => false
  | .refused _ => false

/-- Whether the CPU's step at cycle 0 on these bytes leaves PC and its cycles as given and the state as
expected. -/
def vector (pc : Word) (bytes : List Byte) (setup : State → State) (pc' : Word) (cycles : Nat)
    (good : State → Bool) : Bool :=
  nextIs (cpuStep (placed pc bytes setup)) (fun t => good t && t.pc == pc' && t.nextActive == cycles)

/-- HL at 0xC000, which holds a byte. -/
def atHl (v : Byte) (s : State) : State := (s.setHl 0xC000).busWrite 0xC000 v

/-- SP at 0xFFFC, which holds the word 0x0153. -/
def returnStacked (s : State) : State := ((State.setSp 0xFFFC s).busWrite 0xFFFC 0x53).busWrite 0xFFFD 0x01

/-- LD1: B = 0x42; `78` (LD A,B) gives A = 0x42, F unchanged (R116). -/
theorem test_LD1 :
    vector 0x0100 [0x78] (State.setReg .b 0x42) 0x0101 1
      (fun s => s.reg .a == 0x42) = true := by decide

/-- LD3: —; `0E 7F` (LD C,0x7F) gives C = 0x7F, PC + 2 (R117). -/
theorem test_LD3 :
    vector 0x0100 [0x0E, 0x7F] id 0x0102 2
      (fun s => s.reg .c == 0x7F) = true := by decide

/-- LD4: HL = 0xC000, [0xC000] = 0x99; `66` (LD H,(HL)) gives H = 0x99, HL = 0x9900 (R118). -/
theorem test_LD4 :
    vector 0x0100 [0x66] (atHl 0x99) 0x0101 2
      (fun s => s.hl == 0x9900) = true := by decide

/-- LD5: HL = 0xC010, L = 0x10; `75` (LD (HL),L) gives [0xC010] = 0x10 (R119). -/
theorem test_LD5 :
    vector 0x0100 [0x75] (State.setHl 0xC010) 0x0101 2
      (fun s => s.busRead 0xC010 == 0x10) = true := by decide

/-- LD6: HL = 0xFF80; `36 AB` (LD (HL),0xAB) gives [0xFF80] = 0xAB (R120). -/
theorem test_LD6 :
    vector 0x0100 [0x36, 0xAB] (State.setHl 0xFF80) 0x0102 3
      (fun s => s.busRead 0xFF80 == 0xAB) = true := by decide

/-- LD7: BC = 0xFF0F, IF = 0x15; `0A` (LD A,(BC)) gives A = 0x15 (R121). -/
theorem test_LD7 :
    vector 0x0100 [0x0A] (fun s => (s.setPair .b .c 0xFF0F).busWrite 0xFF0F 0x15) 0x0101 2
      (fun s => s.reg .a == 0x15) = true := by decide

/-- LD8: DE = 0xC123, A = 0x77; `12` (LD (DE),A) gives [0xC123] = 0x77 (R124). -/
theorem test_LD8 :
    vector 0x0100 [0x12] (fun s => ((s.setPair .d .e 0xC123)).setReg .a 0x77) 0x0101 2
      (fun s => s.busRead 0xC123 == 0x77) = true := by decide

/-- LD9: HL = 0xC000, A = 0x01; `32` (LD (HL-),A) gives [0xC000] = 0x01, HL = 0xBFFF (R128). -/
theorem test_LD9 :
    vector 0x0100 [0x32] (fun s => (State.setHl 0xC000 s).setReg .a 1) 0x0101 2
      (fun s => s.busRead 0xC000 == 1 && s.hl == 0xBFFF) = true := by decide

/-- LD10: HL = 0xFFFF, IE = 0x1F; `2A` (LD A,(HL+)) gives A = 0x1F, HL = 0x0000, F unchanged (R125). -/
theorem test_LD10 :
    vector 0x0100 [0x2A] (fun s => (State.setHl 0xFFFF { s with ie := 0x1F })) 0x0101 2
      (fun s => s.reg .a == 0x1F && s.hl == 0) = true := by decide

/-- LD11: A = 0x00, LCDC = 0x80; `EA 40 FF` (LD (0xFF40),A) gives LCDC = 0x00, display off: LY = 0, STAT mode 0 (R130, 60_exceptions.md rule R253). -/
theorem test_LD11 :
    vector 0x0100 [0xEA, 0x40, 0xFF] (fun s => { s with lcd := { s.lcd with ly := 9, stat := 2 }}) 0x0103 4
      (fun s => s.lcd.lcdc == 0 && s.lcd.ly == 0 && s.lcd.mode == 0 && s.lcd.power == .off) = true := by decide

/-- LD12: LY = 0x90; `F0 44` (LDH A,(0x44)) gives A = 0x90 (R131). -/
theorem test_LD12 :
    vector 0x0100 [0xF0, 0x44] (fun s => { s with lcd := { s.lcd with ly := 0x90 }}) 0x0102 3
      (fun s => s.reg .a == 0x90) = true := by decide

/-- LD13: A = 0x04; `E0 FF` (LDH (0xFF),A) gives IE = 0x04 (R132). -/
theorem test_LD13 :
    vector 0x0100 [0xE0, 0xFF] (State.setReg .a 4) 0x0102 3
      (fun s => s.ie == 4) = true := by decide

/-- LD14: C = 0x44, LY = 0x10; `F2` (LDH A,(C)) gives A = 0x10 (R133). -/
theorem test_LD14 :
    vector 0x0100 [0xF2] (fun s => State.setReg .c 0x44 { s with lcd := { s.lcd with ly := 0x10 }}) 0x0101 2
      (fun s => s.reg .a == 0x10) = true := by decide

/-- LD15: —; `31 FE FF` (LD SP,0xFFFE) gives SP = 0xFFFE (R135). -/
theorem test_LD15 :
    vector 0x0100 [0x31, 0xFE, 0xFF] id 0x0103 3
      (fun s => s.sp == 0xFFFE) = true := by decide

/-- LD16: SP = 0xABCD; `08 FF FF` (LD (0xFFFF),SP) gives IE = 0xCD; [0x0000] written with 0xAB (the cartridge ignores it) (R136). -/
theorem test_LD16 :
    vector 0x0100 [0x08, 0xFF, 0xFF] (State.setSp 0xABCD) 0x0103 5
      (fun s => s.ie == 0xCD) = true := by decide

/-- LD17: HL = 0xD000; `F9` (LD SP,HL) gives SP = 0xD000 (R137). -/
theorem test_LD17 :
    vector 0x0100 [0xF9] (State.setHl 0xD000) 0x0101 2
      (fun s => s.sp == 0xD000) = true := by decide

/-- LD18: SP = 0xFFFE, A = 0x12, F = 0xB0; `F5` (PUSH AF) gives SP = 0xFFFC, [0xFFFD] = 0x12, [0xFFFC] = 0xB0 (R138). -/
theorem test_LD18 :
    vector 0x0100 [0xF5] (fun s => State.setReg .f 0xB0 (State.setReg .a 0x12 (s.setSp 0xFFFE))) 0x0101 4
      (fun s => s.sp == 0xFFFC && s.busRead 0xFFFD == 0x12 && s.busRead 0xFFFC == 0xB0) = true := by decide

/-- LD19: SP = 0x0000, BC = 0x1234; `C5` (PUSH BC) gives SP = 0xFFFE, IE = 0x12, [0xFFFE] = 0x34 (R138). -/
theorem test_LD19 :
    vector 0x0100 [0xC5] (fun s => s.setPair .b .c 0x1234) 0x0101 4
      (fun s => s.sp == 0xFFFE && s.ie == 0x12 && s.busRead 0xFFFE == 0x34) = true := by decide

/-- LD20: SP = 0xFFFC, [0xFFFC] = 0xFF, [0xFFFD] = 0x00; `F1` (POP AF) gives A = 0x00, F = 0xF0, SP = 0xFFFE (R139). -/
theorem test_LD20 :
    vector 0x0100 [0xF1] (fun s => (s.setSp 0xFFFC).busWrite 0xFFFC 0xFF) 0x0101 3
      (fun s => s.reg .a == 0 && s.reg .f == 0xF0 && s.sp == 0xFFFE) = true := by decide

/-- LD21: SP = 0xFFFF, IE = 0x34; `D1` (POP DE) gives E = 0x34, D = [0x0000] of the cartridge, SP = 0x0001 (R139). -/
theorem test_LD21 :
    vector 0x0100 [0xD1] (fun s => { s.setSp 0xFFFF with ie := 0x34 }) 0x0101 3
      (fun s => s.reg .e == 0x34 && s.sp == 1) = true := by decide

/-- AR1: A = 0x3A, B = 0xC6; `80` (ADD A,B) gives A = 0x00, F = 0xB0 (R141). -/
theorem test_AR1 :
    vector 0x0100 [0x80] (fun s => State.setReg .b 0xC6 (State.setReg .a 0x3A s)) 0x0101 1
      (fun s => s.reg .a == 0x00 && s.reg .f == 0xB0) = true := by decide

/-- AR2: A = 0x80; `87` (ADD A,A) gives A = 0x00, F = 0x90 (R141). -/
theorem test_AR2 :
    vector 0x0100 [0x87] (State.setReg .a 0x80) 0x0101 1
      (fun s => s.reg .a == 0x00 && s.reg .f == 0x90) = true := by decide

/-- AR3: A = 0x01, HL = 0xC000, [0xC000] = 0x0F; `86` (ADD A,(HL)) gives A = 0x10, F = 0x20 (R142). -/
theorem test_AR3 :
    vector 0x0100 [0x86] (fun s => atHl 0x0F (State.setReg .a 1 s)) 0x0101 2
      (fun s => s.reg .a == 0x10 && s.reg .f == 0x20) = true := by decide

/-- AR4: A = 0xFF, F = 0x10; `CE 00` (ADC A,0x00) gives A = 0x00, F = 0xB0 (R146). -/
theorem test_AR4 :
    vector 0x0100 [0xCE, 0x00] (fun s => State.setReg .f 0x10 (State.setReg .a 0xFF s)) 0x0102 2
      (fun s => s.reg .a == 0x00 && s.reg .f == 0xB0) = true := by decide

/-- AR5: A = 0x7F, F = 0x10, HL = 0xC000, [0xC000] = 0x7F; `8E` (ADC A,(HL)) gives A = 0xFF, F = 0x20 (R145). -/
theorem test_AR5 :
    vector 0x0100 [0x8E] (fun s => atHl 0x7F (State.setReg .f 0x10 (State.setReg .a 0x7F s))) 0x0101 2
      (fun s => s.reg .a == 0xFF && s.reg .f == 0x20) = true := by decide

/-- AR6: A = 0x3E, E = 0x3E; `93` (SUB A,E) gives A = 0x00, F = 0xC0 (R147). -/
theorem test_AR6 :
    vector 0x0100 [0x93] (fun s => State.setReg .e 0x3E (State.setReg .a 0x3E s)) 0x0101 1
      (fun s => s.reg .a == 0x00 && s.reg .f == 0xC0) = true := by decide

/-- AR7: A = 0x00; `D6 01` (SUB A,0x01) gives A = 0xFF, F = 0x70 (R149). -/
theorem test_AR7 :
    vector 0x0100 [0xD6, 0x01] (State.setReg .a 0) 0x0102 2
      (fun s => s.reg .a == 0xFF && s.reg .f == 0x70) = true := by decide

/-- AR8: A = 0x10, [HL] = 0x01; `96` (SUB A,(HL)) gives A = 0x0F, F = 0x60 (R148). -/
theorem test_AR8 :
    vector 0x0100 [0x96] (fun s => atHl 1 (State.setReg .a 0x10 s)) 0x0101 2
      (fun s => s.reg .a == 0x0F && s.reg .f == 0x60) = true := by decide

/-- AR9: A = 0x00, F = 0x10; `DE 00` (SBC A,0x00) gives A = 0xFF, F = 0x70 (R152). -/
theorem test_AR9 :
    vector 0x0100 [0xDE, 0x00] (State.setReg .f 0x10) 0x0102 2
      (fun s => s.reg .a == 0xFF && s.reg .f == 0x70) = true := by decide

/-- AR10: A = 0x01, F = 0x10, [HL] = 0x01; `9E` (SBC A,(HL)) gives A = 0xFF, F = 0x70 (R151). -/
theorem test_AR10 :
    vector 0x0100 [0x9E] (fun s => atHl 1 (State.setReg .f 0x10 (State.setReg .a 1 s))) 0x0101 2
      (fun s => s.reg .a == 0xFF && s.reg .f == 0x70) = true := by decide

/-- AR11: A = 0x10; `FE 20` (CP A,0x20) gives A = 0x10, F = 0x50 (R155). -/
theorem test_AR11 :
    vector 0x0100 [0xFE, 0x20] (State.setReg .a 0x10) 0x0102 2
      (fun s => s.reg .a == 0x10 && s.reg .f == 0x50) = true := by decide

/-- AR12: A = 0x3C, [HL] = 0x3C; `BE` (CP A,(HL)) gives A = 0x3C, F = 0xC0 (R154). -/
theorem test_AR12 :
    vector 0x0100 [0xBE] (fun s => atHl 0x3C (State.setReg .a 0x3C s)) 0x0101 2
      (fun s => s.reg .a == 0x3C && s.reg .f == 0xC0) = true := by decide

/-- AR13: A = 0x5A, C = 0xA5; `A1` (AND A,C) gives A = 0x00, F = 0xA0 (R156). -/
theorem test_AR13 :
    vector 0x0100 [0xA1] (fun s => State.setReg .c 0xA5 (State.setReg .a 0x5A s)) 0x0101 1
      (fun s => s.reg .a == 0x00 && s.reg .f == 0xA0) = true := by decide

/-- AR14: A = 0xFF, [HL] = 0x0F; `A6` (AND A,(HL)) gives A = 0x0F, F = 0x20 (R157). -/
theorem test_AR14 :
    vector 0x0100 [0xA6] (fun s => atHl 0x0F (State.setReg .a 0xFF s)) 0x0101 2
      (fun s => s.reg .a == 0x0F && s.reg .f == 0x20) = true := by decide

/-- AR15: A = 0xF0; `E6 0F` (AND A,0x0F) gives A = 0x00, F = 0xA0 (R158). -/
theorem test_AR15 :
    vector 0x0100 [0xE6, 0x0F] (State.setReg .a 0xF0) 0x0102 2
      (fun s => s.reg .a == 0x00 && s.reg .f == 0xA0) = true := by decide

/-- AR16: A = 0x12, F = 0x70; `AF` (XOR A,A) gives A = 0x00, F = 0x80 (R159). -/
theorem test_AR16 :
    vector 0x0100 [0xAF] (fun s => State.setReg .f 0x70 (State.setReg .a 0x12 s)) 0x0101 1
      (fun s => s.reg .a == 0x00 && s.reg .f == 0x80) = true := by decide

/-- AR17: A = 0xFF, [HL] = 0x0F; `AE` (XOR A,(HL)) gives A = 0xF0, F = 0x00 (R160). -/
theorem test_AR17 :
    vector 0x0100 [0xAE] (fun s => atHl 0x0F (State.setReg .a 0xFF s)) 0x0101 2
      (fun s => s.reg .a == 0xF0 && s.reg .f == 0x00) = true := by decide

/-- AR18: A = 0x55; `EE AA` (XOR A,0xAA) gives A = 0xFF, F = 0x00 (R161). -/
theorem test_AR18 :
    vector 0x0100 [0xEE, 0xAA] (State.setReg .a 0x55) 0x0102 2
      (fun s => s.reg .a == 0xFF && s.reg .f == 0x00) = true := by decide

/-- AR19: A = 0x00, F = 0x30; `B7` (OR A,A) gives A = 0x00, F = 0x80 (R162). -/
theorem test_AR19 :
    vector 0x0100 [0xB7] (State.setReg .f 0x30) 0x0101 1
      (fun s => s.reg .a == 0x00 && s.reg .f == 0x80) = true := by decide

/-- AR20: A = 0x0F, [HL] = 0xF0; `B6` (OR A,(HL)) gives A = 0xFF, F = 0x00 (R163). -/
theorem test_AR20 :
    vector 0x0100 [0xB6] (fun s => atHl 0xF0 (State.setReg .a 0x0F s)) 0x0101 2
      (fun s => s.reg .a == 0xFF && s.reg .f == 0x00) = true := by decide

/-- AR21: A = 0x00; `F6 00` (OR A,0x00) gives A = 0x00, F = 0x80 (R164). -/
theorem test_AR21 :
    vector 0x0100 [0xF6, 0x00] (State.setReg .a 0) 0x0102 2
      (fun s => s.reg .a == 0x00 && s.reg .f == 0x80) = true := by decide

/-- AR22: A = 0xFF, F = 0x10; `3C` (INC A) gives A = 0x00, F = 0xB0 (R165). -/
theorem test_AR22 :
    vector 0x0100 [0x3C] (fun s => State.setReg .f 0x10 (State.setReg .a 0xFF s)) 0x0101 1
      (fun s => s.reg .a == 0x00 && s.reg .f == 0xB0) = true := by decide

/-- AR23: [HL] = 0xFF, F = 0x00; `34` (INC (HL)) gives [HL] = 0x00, F = 0xA0 (R166). -/
theorem test_AR23 :
    vector 0x0100 [0x34] (atHl 0xFF) 0x0101 3
      (fun s => s.busRead 0xC000 == 0 && s.reg .f == 0xA0) = true := by decide

/-- AR24: B = 0x00, F = 0x10; `05` (DEC B) gives B = 0xFF, F = 0x70 (R167). -/
theorem test_AR24 :
    vector 0x0100 [0x05] (State.setReg .f 0x10) 0x0101 1
      (fun s => s.reg .b == 0xFF && s.reg .f == 0x70) = true := by decide

/-- AR25: [HL] = 0x01, F = 0x00; `35` (DEC (HL)) gives [HL] = 0x00, F = 0xC0 (R168). -/
theorem test_AR25 :
    vector 0x0100 [0x35] (atHl 1) 0x0101 3
      (fun s => s.busRead 0xC000 == 0 && s.reg .f == 0xC0) = true := by decide

/-- AR26: A = 0x9A, F = 0x00; `27` (DAA) gives A = 0x00, F = 0x90 (R169). -/
theorem test_AR26 :
    vector 0x0100 [0x27] (State.setReg .a 0x9A) 0x0101 1
      (fun s => s.reg .a == 0x00 && s.reg .f == 0x90) = true := by decide

/-- AR27: A = 0x00, F = 0x70; `27` (DAA) gives A = 0x9A, F = 0x50 (R169). -/
theorem test_AR27 :
    vector 0x0100 [0x27] (State.setReg .f 0x70) 0x0101 1
      (fun s => s.reg .a == 0x9A && s.reg .f == 0x50) = true := by decide

/-- AR28: A = 0x00, F = 0x80; `2F` (CPL) gives A = 0xFF, F = 0xE0 (R170). -/
theorem test_AR28 :
    vector 0x0100 [0x2F] (State.setReg .f 0x80) 0x0101 1
      (fun s => s.reg .a == 0xFF && s.reg .f == 0xE0) = true := by decide

/-- AR29: F = 0x70; `37` (SCF) gives F = 0x10 (R171). -/
theorem test_AR29 :
    vector 0x0100 [0x37] (State.setReg .f 0x70) 0x0101 1
      (fun s => s.reg .a == 0x00 && s.reg .f == 0x10) = true := by decide

/-- AR30: F = 0xF0; `3F` (CCF) gives F = 0x80 (R172). -/
theorem test_AR30 :
    vector 0x0100 [0x3F] (State.setReg .f 0xF0) 0x0101 1
      (fun s => s.reg .a == 0x00 && s.reg .f == 0x80) = true := by decide

/-- W1: HL = 0x0FFF, SP = 0x0001, F = 0x00; `39` (ADD HL,SP) gives HL = 0x1000, F = 0x20 (R173). -/
theorem test_W1 :
    vector 0x0100 [0x39] (fun s => (State.setHl 0x0FFF s).setSp 1) 0x0101 2
      (fun s => s.hl == 0x1000 && s.reg .f == 0x20) = true := by decide

/-- W2: HL = 0xFFFF, DE = 0x0001, F = 0x40; `19` (ADD HL,DE) gives HL = 0x0000, F = 0x30 (Z stays 0, N cleared) (R173). -/
theorem test_W2 :
    vector 0x0100 [0x19] (fun s => State.setReg .f 0x40 ((State.setHl 0xFFFF s).setPair .d .e 1)) 0x0101 2
      (fun s => s.hl == 0x0000 && s.reg .f == 0x30) = true := by decide

/-- W3: HL = 0x00FF, BC = 0x0001, F = 0x80; `09` (ADD HL,BC) gives HL = 0x0100, F = 0x80 (no carry out of bit 11 or 15; Z kept) (R173). -/
theorem test_W3 :
    vector 0x0100 [0x09] (fun s => State.setReg .f 0x80 ((State.setHl 0x00FF s).setPair .b .c 1)) 0x0101 2
      (fun s => s.hl == 0x0100 && s.reg .f == 0x80) = true := by decide

/-- W3b: the example of R173: HL = 0x8A23, BC = 0x0605, F = 0x80, ADD HL,BC gives HL = 0x9028, F = 0xA0. -/
theorem test_W3b :
    vector 0x0100 [0x09] (fun s => State.setReg .f 0x80 ((State.setHl 0x8A23 s).setPair .b .c 0x0605)) 0x0101 2
      (fun s => s.hl == 0x9028 && s.reg .f == 0xA0) = true := by decide

/-- W4: SP = 0xFFFF, F = 0xF0; `33` (INC SP) gives SP = 0x0000, F = 0xF0 (R174). -/
theorem test_W4 :
    vector 0x0100 [0x33] (fun s => State.setReg .f 0xF0 (s.setSp 0xFFFF)) 0x0101 2
      (fun s => s.sp == 0 && s.reg .f == 0xF0) = true := by decide

/-- W5: BC = 0x0000; `0B` (DEC BC) gives BC = 0xFFFF (R175). -/
theorem test_W5 :
    vector 0x0100 [0x0B] id 0x0101 2
      (fun s => s.pair .b .c == 0xFFFF) = true := by decide

/-- W6: SP = 0x0100; `E8 80` (ADD SP,-128) gives SP = 0x0080, F = 0x00 (R176). -/
theorem test_W6 :
    vector 0x0100 [0xE8, 0x80] (State.setSp 0x100) 0x0102 4
      (fun s => s.sp == 0x80 && s.reg .f == 0) = true := by decide

/-- W7: SP = 0x000F; `E8 01` (ADD SP,1) gives SP = 0x0010, F = 0x20 (R176). -/
theorem test_W7 :
    vector 0x0100 [0xE8, 0x01] (State.setSp 0xF) 0x0102 4
      (fun s => s.sp == 0x10 && s.reg .f == 0x20) = true := by decide

/-- W8: SP = 0x00FF; `F8 01` (LD HL,SP+1) gives HL = 0x0100, F = 0x30, SP = 0x00FF (R177). -/
theorem test_W8 :
    vector 0x0100 [0xF8, 0x01] (State.setSp 0xFF) 0x0102 3
      (fun s => s.hl == 0x100 && s.reg .f == 0x30 && s.sp == 0xFF) = true := by decide

/-- W9: SP = 0x0000; `F8 FF` (LD HL,SP-1) gives HL = 0xFFFF, F = 0x00 (R177). -/
theorem test_W9 :
    vector 0x0100 [0xF8, 0xFF] id 0x0102 3
      (fun s => s.hl == 0xFFFF && s.reg .f == 0) = true := by decide

/-- RS1: A = 0x00, F = 0x00; `07` (RLCA) gives A = 0x00, F = 0x00 (Z stays 0) (R178). -/
theorem test_RS1 :
    vector 0x0100 [0x07] id 0x0101 1
      (fun s => s.reg .a == 0x00 && s.reg .f == 0x00) = true := by decide

/-- RS2: A = 0x01; `0F` (RRCA) gives A = 0x80, F = 0x10 (R179). -/
theorem test_RS2 :
    vector 0x0100 [0x0F] (State.setReg .a 1) 0x0101 1
      (fun s => s.reg .a == 0x80 && s.reg .f == 0x10) = true := by decide

/-- RS3: A = 0x80, F = 0x00; `17` (RLA) gives A = 0x00, F = 0x10 (R180). -/
theorem test_RS3 :
    vector 0x0100 [0x17] (State.setReg .a 0x80) 0x0101 1
      (fun s => s.reg .a == 0x00 && s.reg .f == 0x10) = true := by decide

/-- RS4: A = 0x01, F = 0x10; `1F` (RRA) gives A = 0x80, F = 0x10 (R181). -/
theorem test_RS4 :
    vector 0x0100 [0x1F] (fun s => State.setReg .f 0x10 (State.setReg .a 1 s)) 0x0101 1
      (fun s => s.reg .a == 0x80 && s.reg .f == 0x10) = true := by decide

/-- RS5: B = 0x00; `CB 00` (RLC B) gives B = 0x00, F = 0x80 (Z set, unlike RLCA) (R182). -/
theorem test_RS5 :
    vector 0x0100 [0xCB, 0x00] id 0x0102 2
      (fun s => s.reg .b == 0x00 && s.reg .f == 0x80) = true := by decide

/-- RS6: [HL] = 0x80; `CB 06` (RLC (HL)) gives [HL] = 0x01, F = 0x10 (R183). -/
theorem test_RS6 :
    vector 0x0100 [0xCB, 0x06] (fun s => State.setReg .f 0x00 (atHl 0x80 s)) 0x0102 4
      (fun s => s.busRead 0xC000 == 0x01 && s.reg .f == 0x10) = true := by decide

/-- RS7: C = 0x01; `CB 09` (RRC C) gives C = 0x80, F = 0x10 (R184). -/
theorem test_RS7 :
    vector 0x0100 [0xCB, 0x09] (State.setReg .c 1) 0x0102 2
      (fun s => s.reg .c == 0x80 && s.reg .f == 0x10) = true := by decide

/-- RS8: [HL] = 0x01; `CB 0E` (RRC (HL)) gives [HL] = 0x80, F = 0x10 (R185). -/
theorem test_RS8 :
    vector 0x0100 [0xCB, 0x0E] (fun s => State.setReg .f 0x00 (atHl 0x01 s)) 0x0102 4
      (fun s => s.busRead 0xC000 == 0x80 && s.reg .f == 0x10) = true := by decide

/-- RS9: D = 0x80, F = 0x00; `CB 12` (RL D) gives D = 0x00, F = 0x90 (R186). -/
theorem test_RS9 :
    vector 0x0100 [0xCB, 0x12] (State.setReg .d 0x80) 0x0102 2
      (fun s => s.reg .d == 0x00 && s.reg .f == 0x90) = true := by decide

/-- RS10: [HL] = 0x00, F = 0x10; `CB 16` (RL (HL)) gives [HL] = 0x01, F = 0x00 (R187). -/
theorem test_RS10 :
    vector 0x0100 [0xCB, 0x16] (fun s => State.setReg .f 0x10 (atHl 0x00 s)) 0x0102 4
      (fun s => s.busRead 0xC000 == 0x01 && s.reg .f == 0x00) = true := by decide

/-- RS11: A = 0x00, F = 0x10; `CB 1F` (RR A) gives A = 0x80, F = 0x00 (R188). -/
theorem test_RS11 :
    vector 0x0100 [0xCB, 0x1F] (State.setReg .f 0x10) 0x0102 2
      (fun s => s.reg .a == 0x80 && s.reg .f == 0x00) = true := by decide

/-- RS12: [HL] = 0x01, F = 0x00; `CB 1E` (RR (HL)) gives [HL] = 0x00, F = 0x90 (R189). -/
theorem test_RS12 :
    vector 0x0100 [0xCB, 0x1E] (fun s => State.setReg .f 0x00 (atHl 0x01 s)) 0x0102 4
      (fun s => s.busRead 0xC000 == 0x00 && s.reg .f == 0x90) = true := by decide

/-- RS13: E = 0x80; `CB 23` (SLA E) gives E = 0x00, F = 0x90 (R190). -/
theorem test_RS13 :
    vector 0x0100 [0xCB, 0x23] (State.setReg .e 0x80) 0x0102 2
      (fun s => s.reg .e == 0x00 && s.reg .f == 0x90) = true := by decide

/-- RS14: [HL] = 0x41; `CB 26` (SLA (HL)) gives [HL] = 0x82, F = 0x00 (R191). -/
theorem test_RS14 :
    vector 0x0100 [0xCB, 0x26] (fun s => State.setReg .f 0x00 (atHl 0x41 s)) 0x0102 4
      (fun s => s.busRead 0xC000 == 0x82 && s.reg .f == 0x00) = true := by decide

/-- RS15: H = 0x81; `CB 2C` (SRA H) gives H = 0xC0, F = 0x10 (R192). -/
theorem test_RS15 :
    vector 0x0100 [0xCB, 0x2C] (State.setReg .h 0x81) 0x0102 2
      (fun s => s.reg .h == 0xC0 && s.reg .f == 0x10) = true := by decide

/-- RS16: [HL] = 0x01; `CB 2E` (SRA (HL)) gives [HL] = 0x00, F = 0x90 (R193). -/
theorem test_RS16 :
    vector 0x0100 [0xCB, 0x2E] (fun s => State.setReg .f 0x00 (atHl 0x01 s)) 0x0102 4
      (fun s => s.busRead 0xC000 == 0x00 && s.reg .f == 0x90) = true := by decide

/-- RS17: L = 0x81; `CB 3D` (SRL L) gives L = 0x40, F = 0x10 (R194). -/
theorem test_RS17 :
    vector 0x0100 [0xCB, 0x3D] (State.setReg .l 0x81) 0x0102 2
      (fun s => s.reg .l == 0x40 && s.reg .f == 0x10) = true := by decide

/-- RS18: [HL] = 0x80; `CB 3E` (SRL (HL)) gives [HL] = 0x40, F = 0x00 (R195). -/
theorem test_RS18 :
    vector 0x0100 [0xCB, 0x3E] (fun s => State.setReg .f 0x00 (atHl 0x80 s)) 0x0102 4
      (fun s => s.busRead 0xC000 == 0x40 && s.reg .f == 0x00) = true := by decide

/-- RS19: B = 0x00, F = 0x10; `CB 30` (SWAP B) gives B = 0x00, F = 0x80 (C cleared) (R196). -/
theorem test_RS19 :
    vector 0x0100 [0xCB, 0x30] (State.setReg .f 0x10) 0x0102 2
      (fun s => s.reg .b == 0x00 && s.reg .f == 0x80) = true := by decide

/-- RS20: [HL] = 0xA5; `CB 36` (SWAP (HL)) gives [HL] = 0x5A, F = 0x00 (R197). -/
theorem test_RS20 :
    vector 0x0100 [0xCB, 0x36] (fun s => State.setReg .f 0x00 (atHl 0xA5 s)) 0x0102 4
      (fun s => s.busRead 0xC000 == 0x5A && s.reg .f == 0x00) = true := by decide

/-- RS21: H = 0x7F, F = 0x10; `CB 7C` (BIT 7,H) gives H = 0x7F, F = 0xB0 (R198). -/
theorem test_RS21 :
    vector 0x0100 [0xCB, 0x7C] (fun s => State.setReg .f 0x10 (State.setReg .h 0x7F s)) 0x0102 2
      (fun s => s.reg .h == 0x7F && s.reg .f == 0xB0) = true := by decide

/-- RS22: [HL] = 0x08, F = 0x00; `CB 5E` (BIT 3,(HL)) gives [HL] unchanged, F = 0x20 (R199). -/
theorem test_RS22 :
    vector 0x0100 [0xCB, 0x5E] (fun s => State.setReg .f 0x00 (atHl 0x08 s)) 0x0102 3
      (fun s => s.busRead 0xC000 == 0x08 && s.reg .f == 0x20) = true := by decide

/-- RS23: A = 0xFF; `CB BF` (RES 7,A) gives A = 0x7F, F unchanged (R200). -/
theorem test_RS23 :
    vector 0x0100 [0xCB, 0xBF] (State.setReg .a 0xFF) 0x0102 2
      (fun s => s.reg .a == 0x7F && s.reg .f == 0x00) = true := by decide

/-- RS24: [HL] = 0xFF; `CB 86` (RES 0,(HL)) gives [HL] = 0xFE (R201). -/
theorem test_RS24 :
    vector 0x0100 [0xCB, 0x86] (fun s => State.setReg .f 0x00 (atHl 0xFF s)) 0x0102 4
      (fun s => s.busRead 0xC000 == 0xFE && s.reg .f == 0x00) = true := by decide

/-- RS25: A = 0x00; `CB C7` (SET 0,A) gives A = 0x01, F unchanged (R202). -/
theorem test_RS25 :
    vector 0x0100 [0xCB, 0xC7] id 0x0102 2
      (fun s => s.reg .a == 0x01 && s.reg .f == 0x00) = true := by decide

/-- RS26: [HL] = 0x00; `CB FE` (SET 7,(HL)) gives [HL] = 0x80 (R203). -/
theorem test_RS26 :
    vector 0x0100 [0xCB, 0xFE] (fun s => State.setReg .f 0x00 (atHl 0x00 s)) 0x0102 4
      (fun s => s.busRead 0xC000 == 0x80 && s.reg .f == 0x00) = true := by decide

/-- CT1: PC = 0x0100; `C3 50 01` (JP 0x0150) gives PC = 0x0150 (R204). -/
theorem test_CT1 :
    vector 0x0100 [0xC3, 0x50, 0x01] id 0x0150 4
      (fun _ => true) = true := by decide

/-- CT2: PC = 0x0200, F = 0x00; `CA 00 C0` (JP Z,0xC000) gives PC = 0x0203 (not taken) (R205). -/
theorem test_CT2 :
    vector 0x0200 [0xCA, 0x00, 0xC0] id 0x0203 3
      (fun _ => true) = true := by decide

/-- CT3: PC = 0x0200, F = 0x10; `DA 00 C0` (JP C,0xC000) gives PC = 0xC000 (taken) (R205). -/
theorem test_CT3 :
    vector 0x0200 [0xDA, 0x00, 0xC0] (State.setReg .f 0x10) 0xC000 4
      (fun _ => true) = true := by decide

/-- CT4: HL = 0x4000; `E9` (JP HL) gives PC = 0x4000 (R206). -/
theorem test_CT4 :
    vector 0x0200 [0xE9] (State.setHl 0x4000) 0x4000 1
      (fun _ => true) = true := by decide

/-- CT5: PC = 0x0000; `18 FD` (JR -3) gives PC = 0xFFFF (wraps) (R207). -/
theorem test_CT5 :
    vector 0x0000 [0x18, 0xFD] id 0xFFFF 3
      (fun _ => true) = true := by decide

/-- CT6: PC = 0x0150, F = 0x80; `20 FE` (JR NZ,-2) gives PC = 0x0152 (not taken) (R208). -/
theorem test_CT6 :
    vector 0x0150 [0x20, 0xFE] (State.setReg .f 0x80) 0x0152 2
      (fun _ => true) = true := by decide

/-- CT7: PC = 0x0150, F = 0x00; `30 7F` (JR NC,+127) gives PC = 0x01D1 (R208). -/
theorem test_CT7 :
    vector 0x0150 [0x30, 0x7F] id 0x01D1 3
      (fun _ => true) = true := by decide

/-- CT8: PC = 0x0150, SP = 0xFFFE; `CD 00 02` (CALL 0x0200) gives [0xFFFD] = 0x01, [0xFFFC] = 0x53, SP = 0xFFFC, PC = 0x0200 (R209). -/
theorem test_CT8 :
    vector 0x0150 [0xCD, 0x00, 0x02] (State.setSp 0xFFFE) 0x0200 6
      (fun s => s.busRead 0xFFFD == 1 && s.busRead 0xFFFC == 0x53 && s.sp == 0xFFFC) = true := by decide

/-- CT9: PC = 0x0300, SP = 0xD000, F = 0x00; `C4 34 12` (CALL NZ,0x1234) gives [0xCFFF] = 0x03, [0xCFFE] = 0x03, SP = 0xCFFE, PC = 0x1234 (R210). -/
theorem test_CT9 :
    vector 0x0300 [0xC4, 0x34, 0x12] (State.setSp 0xD000) 0x1234 6
      (fun s => s.busRead 0xCFFF == 3 && s.busRead 0xCFFE == 3 && s.sp == 0xCFFE) = true := by decide

/-- CT10: PC = 0x0300, SP = 0xD000, F = 0x80; `C4 34 12` (CALL NZ,0x1234) gives PC = 0x0303, SP and memory unchanged (R210). -/
theorem test_CT10 :
    vector 0x0300 [0xC4, 0x34, 0x12] (fun s => State.setReg .f 0x80 (s.setSp 0xD000)) 0x0303 3
      (fun s => s.sp == 0xD000) = true := by decide

/-- CT11: SP = 0xFFFC, [0xFFFC] = 0x53, [0xFFFD] = 0x01; `C9` (RET) gives PC = 0x0153, SP = 0xFFFE (R211). -/
theorem test_CT11 :
    vector 0x0300 [0xC9] returnStacked 0x0153 4
      (fun s => s.sp == 0xFFFE) = true := by decide

/-- CT12: SP = 0xFFFC, [0xFFFC] = 0x53, [0xFFFD] = 0x01, F = 0x10; `D8` (RET C) gives PC = 0x0153, SP = 0xFFFE (R212). -/
theorem test_CT12 :
    vector 0x0300 [0xD8] (fun s => State.setReg .f 0x10 (returnStacked s)) 0x0153 5
      (fun s => s.sp == 0xFFFE) = true := by decide

/-- CT13: PC = 0x0205, F = 0x10; `D0` (RET NC) gives PC = 0x0206, SP unchanged (R212). -/
theorem test_CT13 :
    vector 0x0205 [0xD0] (fun s => State.setReg .f 0x10 (returnStacked s)) 0x0206 2
      (fun s => s.sp == 0xFFFC) = true := by decide

/-- CT14: SP = 0xFFFA, [0xFFFA] = 0x00, [0xFFFB] = 0x02, IME = 0; `D9` (RETI) gives PC = 0x0200, SP = 0xFFFC, IME = 1 (R213). -/
theorem test_CT14 :
    vector 0x0205 [0xD9] (fun s => (State.setSp 0xFFFA s).busWrite 0xFFFB 2) 0x0200 4
      (fun s => s.sp == 0xFFFC && s.ime) = true := by decide

/-- CT15: PC = 0x1000, SP = 0xD000; `FF` (RST 0x38) gives [0xCFFF] = 0x10, [0xCFFE] = 0x01, SP = 0xCFFE, PC = 0x0038 (R214). -/
theorem test_CT15 :
    vector 0x1000 [0xFF] (State.setSp 0xD000) 0x0038 4
      (fun s => s.busRead 0xCFFF == 0x10 && s.busRead 0xCFFE == 1 && s.sp == 0xCFFE) = true := by decide

/-! ### More of the accumulator's loads and stores, by the examples of their rules -/

/-- R122: DE = 0xC200, [0xC200] = 0x34 gives A = 0x34. -/
theorem test_R122 :
    vector 0x0100 [0x1A] (fun s => (s.setPair .d .e 0xC200).busWrite 0xC200 0x34) 0x0101 2
      (fun s => s.reg .a == 0x34) = true := by decide

/-- R123: LD (BC),A stores at BC. -/
theorem test_R123 :
    vector 0x0100 [0x02] (fun s => (s.setPair .b .c 0xC300).setReg .a 0x56) 0x0101 2
      (fun s => s.busRead 0xC300 == 0x56) = true := by decide

/-- R126: LD A,(HL-) reads at HL and lowers it. -/
theorem test_R126 :
    vector 0x0100 [0x3A] (atHl 0x21) 0x0101 2 (fun s => s.reg .a == 0x21 && s.hl == 0xBFFF) = true := by decide

/-- R127: LD (HL+),A stores at HL and raises it. -/
theorem test_R127 :
    vector 0x0100 [0x22] (fun s => (s.setHl 0xC0FF).setReg .a 0x21) 0x0101 2
      (fun s => s.busRead 0xC0FF == 0x21 && s.hl == 0xC100) = true := by decide

/-- R129: `FA 00 C0` with [0xC000] = 0x5C gives A = 0x5C. -/
theorem test_R129 :
    vector 0x0100 [0xFA, 0x00, 0xC0] (fun s => s.busWrite 0xC000 0x5C) 0x0103 4
      (fun s => s.reg .a == 0x5C) = true := by decide

/-- R130: `EA 46 FF` with A = 0xC1 starts a DMA from 0xC100. -/
theorem test_R130 :
    vector 0x0100 [0xEA, 0x46, 0xFF] (State.setReg .a 0xC1) 0x0103 4
      (fun s => s.dma.active && s.dma.source == 0xC100 && s.dma.index == 0 && s.lcd.dma == 0xC1) = true := by decide

/-- R134: LDH (C),A stores at 0xFF00 + C. -/
theorem test_R134 :
    vector 0x0100 [0xE2] (fun s => (s.setReg .c 0x80).setReg .a 0x77) 0x0101 2
      (fun s => s.busRead 0xFF80 == 0x77) = true := by decide

/-- R169: A = 0x7D, F = 0x00 gives A = 0x83; A = 0x4B, F = 0x60 gives A = 0x45, F = 0x40. -/
theorem test_R169 :
    (vector 0x0100 [0x27] (State.setReg .a 0x7D) 0x0101 1 (fun s => s.reg .a == 0x83 && s.reg .f == 0) &&
      vector 0x0100 [0x27] (fun s => (s.setReg .a 0x4B).setReg .f 0x60) 0x0101 1
        (fun s => s.reg .a == 0x45 && s.reg .f == 0x40)) = true := by decide

/-! ### ALU functions (spec 95_test_vectors.md AL1 to AL23) -/

/-- AL1 to AL6: the two 16-bit additions. -/
theorem test_AL1_to_AL6 :
    add16L 0xFFF8 0x0008 = ⟨0x0000, false, false, true, true⟩ ∧ add16L 0x00FF 0x0001 = ⟨0x0100, false, false, true, true⟩ ∧
    add16L 0x0100 0xFF80 = ⟨0x0080, false, false, false, false⟩ ∧ add16H 0x8A23 0x0605 = ⟨0x9028, false, false, true, false⟩ ∧
    add16H 0x0FFF 0x0001 = ⟨0x1000, false, false, true, false⟩ ∧ add16H 0xFFFF 0x0001 = ⟨0x0000, false, false, true, true⟩ := by
  decide

/-- AL7 to AL13: the decimal adjustment. -/
theorem test_AL7_to_AL13 :
    bcdAdjust 0x9A false false false = ⟨0x00, true, false, false, true⟩ ∧
    bcdAdjust 0x00 false false true = ⟨0x60, false, false, false, true⟩ ∧
    bcdAdjust 0x0A false false false = ⟨0x10, false, false, false, false⟩ ∧
    bcdAdjust 0x99 false false false = ⟨0x99, false, false, false, false⟩ ∧
    bcdAdjust 0x00 true true true = ⟨0x9A, false, true, false, true⟩ ∧
    bcdAdjust 0xFF false false false = ⟨0x65, false, false, false, true⟩ ∧
    bcdAdjust 0x15 true true false = ⟨0x0F, false, true, false, false⟩ := by decide

/-- X6: the packed form of 0x1234 with Z and H. -/
theorem test_X6 : AluResult.pack (⟨0x1234, true, false, true, false⟩ : AluResult 16) = 0x1234A0 := by decide

/-! ### System instructions and interrupts -/

/-- Interrupt flags and enables set by hand. -/
def lines (ime : Bool) (ie iflag : Byte) (s : State) : State := { s with ime := ime, ie := ie, iflag := iflag }

/-- The CPU's step on a state whose CPU acts at once. -/
def acts (s : State) (good : State → Bool) : Bool := nextIs (cpuStep { s with nextActive := s.cycle }) good

/-- SY1: NOP at 0xFFFF, the byte being IE's, wraps PC. -/
theorem test_SY1 :
    acts { State.reset with pc := 0xFFFF } (fun t => t.pc == 0x0000 && t.nextActive == 1) = true := by decide

/-- SY2: DI clears IME, and IF stays. -/
theorem test_SY2 :
    nextIs (exec .di (lines true 0x01 0x01 { State.reset with pc := 0x0150 }))
      (fun t => !t.ime && t.pc == 0x0151 && t.iflag == 0x01 && !t.interrupted) = true := by decide

/-- SY3: with `EI_DELAY` 0 the step after EI services VBlank and pushes 0x0151. -/
theorem test_SY3 :
    nextIs (exec .ei (lines false 0x01 0x01 { State.reset with pc := 0x0150, sp := 0xFFFE }))
      (fun t => acts t (fun u => u.pc == 0x0040 && u.busRead 0xFFFD == 0x01 && u.busRead 0xFFFC == 0x51 && !u.ime)) =
      true := by decide

/-- SY4: with `EI_DELAY` 1 EI sets `imePending` and IME is 1 after the NOP. -/
theorem test_SY4 :
    nextIs (exec .ei (lines false 0x01 0x01 { State.reset with pc := 0x0150, eiDelay := true }))
      (fun t => !t.ime && t.imePending && nextIs (exec .nop t) (fun u => u.ime && !u.imePending && u.pc == 0x0152)) =
      true := by decide

/-- SY5, SY6: a halted CPU with line 2 raised services it when IME is 1 and runs on when IME is 0. -/
theorem test_SY5_SY6 :
    (nextIs (cpuStep (lines true 0x04 0x04 { placed 0x0201 [0x3C] id with run := .halted, sp := 0xD000, cycle := 100 }))
        (fun t => t.pc == 0x0050 && t.iflag == 0 && !t.ime && t.run == .running && t.busRead 0xCFFE == 0x01) &&
      nextIs (cpuStep (lines false 0x04 0x04 { placed 0x0201 [0x3C] id with run := .halted, cycle := 100 }))
        (fun t => t.pc == 0x0202 && t.reg .a == 1 && t.iflag == 0x04 && t.nextActive == 101)) = true := by decide

/-- SY8: HALT with no line enabled is a dead halt. -/
theorem test_SY8 :
    vector 0x0200 [0x76] id 0x0201 1 (fun t => t.run == .halted && t.deadHalt && t.idle) = true := by decide

/-- SY9: STOP records its fault with PC and changes nothing else. -/
theorem test_SY9 :
    nextIs (step (placed 0x0150 [0x10, 0x00] id))
      (fun t => t.fault == some (.stopUnimplemented 0x0150) && t.pc == 0x0150 && t.nextActive == 0) = true := by decide

/-- SY10: 0xDD at 0x0300 records its fault. -/
theorem test_SY10 :
    nextIs (step (placed 0x0300 [0xDD] id)) (fun t => t.fault == some (.illegalOpcode 0x0300 0xDD)) = true := by decide

/-- SY11: an illegal byte as an operand is data. -/
theorem test_SY11 : vector 0x0300 [0x3E, 0xDD] id 0x0302 2 (fun t => t.reg .a == 0xDD) = true := by decide

/-- SY12: the pending interrupt is serviced before an illegal opcode. -/
theorem test_SY12 :
    acts (lines true 0x01 0x01 { placed 0x0300 [0xD3] id with sp := 0xD000 })
      (fun t => t.fault == none && t.pc == 0x0040 && t.busRead 0xCFFF == 0x03) = true := by decide

/-- X4: of VBlank and Joypad, VBlank's service is taken. -/
theorem test_X4 :
    acts (lines true 0x11 0x11 { State.reset with sp := 0xFFFE, pc := 0x0150 })
      (fun t => t.pc == 0x0040 && t.iflag == 0x10 && t.sp == 0xFFFC && t.busRead 0xFFFD == 0x01 &&
        t.busRead 0xFFFC == 0x50 && t.nextActive == 5) = true := by decide

/-- I3: bits 7..5 of IF are kept and never serviced. -/
theorem test_I3 :
    acts (lines true 0x01 0xE1 { State.reset with sp := 0xD000 }) (fun t => t.iflag == 0xE0) = true := by decide

/-- I4: a push through 0xFFFF writes IE. -/
theorem test_I4 :
    acts (lines true 0x01 0x01 { State.reset with pc := 0x0250 })
      (fun t => t.sp == 0xFFFE && t.ie == 0x02 && t.busRead 0xFFFE == 0x50 && t.pc == 0x0040) = true := by decide

/-- I5: the LCD raises VBlank in the cycle in which the CPU services it. -/
theorem test_I5 :
    nextIs (step (lines true 0x01 0x00 { State.reset with sp := 0xD000, cycle := 16416 }))
      (fun t => t.pc == 0x0040 && t.iflag == 0 && t.lcd.framesCompleted == 1) = true := by decide

/-! ### The bus and its registers -/

/-- M1: echo RAM. M2: an unmapped address. -/
theorem test_M1_M2 :
    (State.reset.busWrite 0xE010 0x5A).busRead 0xC010 = 0x5A ∧ State.reset.busRead 0xFEA0 = 0xFF := by decide

/-- M5: STAT keeps its low three bits. M6: DIV is the divider's high byte. -/
theorem test_M5_M6 :
    ({ State.reset with lcd := { State.reset.lcd with ly := 1, lyc := 1, stat := 0x06 } }.busWrite 0xFF41 0xFF).busRead
      0xFF41 = 0xFE ∧
    { State.reset with timer := ⟨0x1234, 0, 0, 0⟩ }.busRead 0xFF04 = 0x12 := by decide

/-- M8: the boot overlay until any write to 0xFF50. -/
theorem test_M8 :
    let s := State.resetWith (some (Vector.replicate 256 0x31)) false .romOnly []
    s.busRead 0x0000 = 0x31 ∧ (s.busWrite 0xFF50 0x00).busRead 0x0000 = 0x00 := by decide

/-! ### The timer -/

/-- A machine with this timer. -/
def timed (div16 : Word) (tima tma tac : Byte) : State := { State.reset with timer := ⟨div16, tima, tma, tac⟩ }

/-- T1: the fall of bit 9 at the step of cycle 255 reloads TIMA and requests line 2. -/
theorem test_T1 :
    let s := timerStep (timed 0x03FC 0xFF 0x42 0x04)
    s.timer = ⟨0x0400, 0x42, 0x42, 0x04⟩ ∧ s.iflag = 0x04 := by decide

/-- TM7, TM8, TM9: a DIV write counts exactly when the selected bit is 1. -/
theorem test_TM7_TM8_TM9 :
    ((timed 0x0200 0x10 0 0x04).busWrite 0xFF04 9).timer = ⟨0, 0x11, 0, 0x04⟩ ∧
    ((timed 0x0100 0x10 0 0x04).busWrite 0xFF04 9).timer = ⟨0, 0x10, 0, 0x04⟩ ∧
    ((timed 0x0200 0xFF 0x80 0x04).busWrite 0xFF04 9).timer = ⟨0, 0x80, 0x80, 0x04⟩ ∧
    ((timed 0x0200 0xFF 0x80 0x04).busWrite 0xFF04 9).iflag = 0x04 := by decide

/-- TM10, TM11, TM12: a TAC write counts on a falling signal, not on a rising one. -/
theorem test_TM10_TM11_TM12 :
    ((timed 0x0200 0x10 0 0x04).busWrite 0xFF07 0x00).timer.tima = 0x11 ∧
    ((timed 0x0200 0x10 0 0x04).busWrite 0xFF07 0x05).timer.tima = 0x11 ∧
    ((timed 0x0200 0x10 0 0x00).busWrite 0xFF07 0x04).timer.tima = 0x10 := by decide

/-! ### The LCD controller -/

/-- The display on, at this cycle since it was turned on, with this STAT and this LY. -/
def display (cycle : Nat) (stat ly : Byte) : State :=
  { State.reset with cycle := cycle, lcd := { State.reset.lcd with stat := stat, ly := ly } }

/-- LT1, LT2: STAT and LY after the LCD steps of cycles 0, 20, 63 and 114. -/
theorem test_LT1_LT2 :
    (display 0 0x00 0).ppuStep.lcd.stat = 0x06 ∧ (display 20 0x06 0).ppuStep.lcd.stat = 0x07 ∧
    (display 63 0x07 0).ppuStep.lcd.stat = 0x04 ∧ (display 114 0x04 0).ppuStep.lcd.ly = 1 ∧
    (display 114 0x04 0).ppuStep.lcd.stat = 0x02 := by decide

/-- LT3, LT5: the requests of modes 0 and 1, with VBlank's at cycle 16416. -/
theorem test_LT3_LT5 :
    (display 63 0x0B 0).ppuStep.iflag = 0x02 ∧ (display 16416 0x10 143).ppuStep.iflag = 0x03 ∧
    (display 16416 0x10 143).ppuStep.lcd.framesCompleted = 1 := by decide

/-- LT8, LT9: turning the display off at cycle 1000 and on at 2000. -/
theorem test_LT8_LT9 :
    let off := (display 1000 0x00 8).busWrite 0xFF40 0x00
    let on := { off with cycle := 2000 }.busWrite 0xFF40 0x80
    off.lcd.ly = 0 ∧ off.lcd.stat = 0x04 ∧ off.lcd.power = .off ∧ on.lcd.lineOrigin = 2001 ∧ on.lcd.power = .on := by
  decide

/-- LT10: the comparison runs on every write to LYC. -/
theorem test_LT10 :
    (({ State.reset with lcd := { State.reset.lcd with stat := 0x40, power := .off, lcdc := 0 } }).busWrite 0xFF45 0x00).iflag =
      0x02 := by decide

/-- DM1: the first DMA step copies OAM[0]. -/
theorem test_DM1 :
    let s := dmaStep ((State.reset.busWrite 0xC100 0x5A).busWrite 0xFF46 0xC1)
    s.busRead 0xFE00 = 0x5A ∧ s.dma = ⟨true, 0xC100, 1⟩ := by decide

/-! ### Rendering -/

/-- The premises of the RD vectors: tile 1's row 0 with colours 3, 3, 1, 1, 2, 2, 0, 0, BGP 0xE4, and a
map or an object table. -/
def drawn (lcdc : Byte) (more : List (Nat × Byte)) (f : Lcd → Lcd) (ly : Nat) (columns : List Nat) : List Nat :=
  let m := ([(0x8010, 0xF0), (0x8011, 0xCC), (0x8020, 0xFF)] ++ more).foldl (fun (m : Mem) (av : Nat × Byte) => Mem.write m av.1 av.2) []
  let l := f { Lcd.reset with lcdc := lcdc, bgp := 0xE4, obp0 := 0xE4 }
  columns.map (fun x => (renderPixel l m ly (lineSprites l m ly) x).toNat)

/-- One object table entry. -/
def object (j : Nat) (y x tile attr : Byte) : List (Nat × Byte) :=
  [(0xFE00 + 4 * j, y), (0xFE01 + 4 * j, x), (0xFE02 + 4 * j, tile), (0xFE03 + 4 * j, attr)]

/-- RD1, RD2: a tile and the palette. -/
theorem test_RD1_RD2 :
    drawn 0x91 [(0x9800, 1)] id 0 [0, 1, 2, 3, 4, 5, 6, 7, 8] = [3, 3, 1, 1, 2, 2, 0, 0, 0] ∧
    drawn 0x91 [(0x9800, 1)] (fun l => { l with bgp := 0x1B }) 0 [0, 2, 4, 6, 159] = [0, 2, 1, 3, 3] := by decide

/-- RD3, RD4, RD5: scrolling with wraparound. -/
theorem test_RD3_RD4_RD5 :
    drawn 0x91 [(0x9800, 1)] (fun l => { l with scx := 0x03 }) 0 [0, 1, 2, 3, 4] = [1, 2, 2, 0, 0] ∧
    drawn 0x91 [(0x9800, 1)] (fun l => { l with scx := 0xFE }) 0 [0, 1, 2, 4, 6, 8] = [0, 0, 3, 1, 2, 0] ∧
    drawn 0x91 [(0x9800, 1)] (fun l => { l with scy := 0xFF }) 0 [0, 2] = [0, 0] ∧
    drawn 0x91 [(0x9800, 1)] (fun l => { l with scy := 0xFF }) 1 [0, 2] = [3, 1] := by decide

/-- RD6, RD7: the signed tile source, and the background off. -/
theorem test_RD6_RD7 :
    drawn 0x81 [(0x9000, 0xF0), (0x9001, 0xCC)] id 0 [0, 2, 4, 6] = [3, 1, 2, 0] ∧
    drawn 0x81 [(0x8800, 0xF0), (0x9800, 0x80)] id 0 [0, 4] = [1, 0] ∧
    drawn 0x80 [(0x9800, 1)] id 0 [0, 2] = [0, 0] := by decide

/-- RD8 to RD11: the window. -/
theorem test_RD8_to_RD11 :
    drawn 0xF1 [(0x9800, 1), (0x9C00, 1)] (fun l => { l with wx := 87 }) 0 [0, 79, 80, 82, 84] = [3, 0, 3, 1, 2] ∧
    drawn 0xF1 [(0x9800, 1), (0x9C00, 1)] (fun l => { l with wx := 6 }) 0 [0, 80] = [3, 0] ∧
    drawn 0xF1 [(0x9800, 1), (0x9C00, 1)] (fun l => { l with wx := 166 }) 0 [158, 159] = [0, 3] ∧
    drawn 0xF0 [(0x9800, 1), (0x9C00, 1)] (fun l => { l with wx := 87 }) 0 [0, 80] = [0, 3] := by decide

/-- RD13 to RD16: a sprite, flipped, and cut at the left edge. -/
theorem test_RD13_to_RD16 :
    drawn 0x82 (object 0 16 8 1 0x00) id 0 [0, 2, 4, 6] = [3, 1, 2, 0] ∧
    drawn 0x82 (object 0 16 8 1 0x20) id 0 [0, 2, 4, 6] = [0, 2, 1, 3] ∧
    drawn 0x82 (object 0 16 8 1 0x40) id 7 [0, 2, 4, 6] = [3, 1, 2, 0] ∧
    drawn 0x82 (object 0 16 4 1 0x00) id 0 [0, 1, 2, 3] = [2, 2, 0, 0] := by decide

/-- RD17: a tall sprite takes the tile pair. -/
theorem test_RD17 :
    drawn 0x86 (object 0 16 8 1 0x00) id 0 [0] = [0] ∧ drawn 0x86 (object 0 16 8 1 0x00) id 8 [0, 2] = [3, 1] := by
  decide

/-- RD18: the eleventh sprite of a line is not drawn. -/
theorem test_RD18 :
    drawn 0x82 ((List.range 11).flatMap (fun j => object j 16 (BitVec.ofNat 8 (8 + 8 * j)) 1 0x00)) id 0 [72, 80] =
      [3, 0] := by decide

/-- RD20, RD21: foreground and background priority. -/
theorem test_RD20_RD21 :
    drawn 0x93 ((0x9800, 1) :: object 0 16 8 2 0x00) (fun l => { l with obp0 := 0x08 }) 0 [0, 2, 6] = [2, 2, 2] ∧
    drawn 0x93 ((0x9800, 1) :: object 0 16 8 2 0x80) (fun l => { l with obp0 := 0x08 }) 0 [0, 2, 6] = [3, 1, 2] := by
  decide

/-- RD22, RD23: the lower X wins, and at equal X the lower entry. -/
theorem test_RD22_RD23 :
    drawn 0x82 (object 0 16 8 2 0x00 ++ object 1 16 4 2 0x10) (fun l => { l with obp0 := 0x08, obp1 := 0x0C }) 0 [0, 3, 4] =
      [3, 3, 2] ∧
    drawn 0x82 (object 0 16 8 2 0x00 ++ object 1 16 8 2 0x10) (fun l => { l with obp0 := 0x08, obp1 := 0x0C }) 0 [0, 7] =
      [2, 2] := by decide

/-- B1 to B5: the BitVector laws on 32 bits. -/
theorem test_B1_to_B5 :
    shiftPlane (0x80000000#32) 1 = 0 ∧ shiftPlane (shiftPlane (0x00000001#32) 1) (-1) = 0x00000001#32 ∧
    extractWrapped (0x12345678#32) 0 32 = 0x12345678#32 ∧ extractWrapped (0x12345678#32) 32 32 = 0x12345678#32 ∧
    extractZeroExtended (shiftPlane (0x12345678#32) (-32)) 0 32 = 0#32 ∧
    extractWrapped (0x12345678#32) 8 32 = 0x78123456#32 ∧ extractZeroExtended (0x12345678#32) 8 32 = 0x00123456#32 ∧
    shiftPlane (0x12345678#32) 8 = 0x34567800#32 ∧ extractWrapped (0x12345678#32) (-8) 32 = 0x34567812#32 :=
  ⟨by decide +kernel, by decide +kernel, by decide +kernel, by decide +kernel, by decide +kernel, by decide +kernel,
    by decide +kernel, by decide +kernel, by decide +kernel⟩

/-! ### The step that fetches a placed instruction -/

/-- The very first step after reset runs the instruction of a table number placed with `withFetchWord`. -/
theorem test_withFetchWord :
    nextIs (step (State.reset.withFetchWord 8 0x3C)) (fun t => t.reg .a == 1 && t.pc == 1 && t.cycle == 1) = true ∧
    nextIs (step (State.reset.withFetchWord 16 0xCBC7)) (fun t => t.reg .a == 1 && t.pc == 2) = true := by decide

/-! ### Witnesses: the hypotheses of the obligations can be met -/

/-- A canonical memory that is not empty. -/
theorem witness_ResetMeetsInvariant : Mem.wf [(0x0000, 0xC3), (0x7FFF, 0x01)] = true := by decide

/-- A machine about to run `LD (0xFF46),A`. -/
theorem witness_StepRunsTheDecodedInstruction :
    let s := placed 0xC100 [0xEA, 0x46, 0xFF] id
    s.NoFault ∧ (deviceStep s).Fetches ∧
      decode [(deviceStep s).busRead (deviceStep s).pc, (deviceStep s).busRead ((deviceStep s).pc + 1),
        (deviceStep s).busRead ((deviceStep s).pc + 2)] = .ok (.ldAtN16A 0xFF46) ∧
      (Instr.ldAtN16A 0xFF46).wellFormed = true := ⟨rfl, ⟨by decide, by decide⟩, rfl, rfl⟩

/-- A halted CPU with no line pending. -/
theorem witness_IdleAndHaltedCycles_halted :
    let s : State := { State.reset with run := .halted, ie := 0x1F, iflag := 0xE0 }
    let d := lcdStep (timerStep s)
    s.NoFault ∧ d.run = .halted ∧ d.ie &&& d.iflag &&& 0x1F = 0 := by
  exact ⟨rfl, by decide, by decide⟩

/-- A running CPU one cycle before its next action. -/
theorem witness_IdleAndHaltedCycles_busy :
    let s : State := { State.reset with nextActive := 1 }
    let d := lcdStep (timerStep s)
    s.NoFault ∧ d.run = .running ∧ d.cycle < d.nextActive := by
  exact ⟨rfl, by decide, by decide⟩

/-- A halted CPU with line 4 pending, with IME 0 and with IME 1. -/
theorem witness_IdleAndHaltedCycles_wake :
    ∀ ime : Bool, let s := lines ime 0x10 0xF0 { State.reset with run := .halted }
      s.run = .halted ∧ s.ie &&& s.iflag &&& 0x1F ≠ 0 ∧ s.ime = ime := by decide

/-- A recorded fault, and a state with none. -/
theorem witness_FaultsStopTheMachine_record :
    ({ State.reset with fault := some (.illegalOpcode 0x0300 0xDD) } : State).fault = some (.illegalOpcode 0x0300 0xDD) ∧
      State.reset.NoFault := ⟨rfl, rfl⟩

/-- A CPU at a STOP, and one at the last illegal byte. -/
theorem witness_FaultsStopTheMachine_opcode :
    (let s := placed 0x0150 [0x10, 0x00] id;
      s.NoFault ∧ (deviceStep s).Fetches ∧ (deviceStep s).busRead (deviceStep s).pc = 0x10) ∧
    (let s := placed 0x0300 [0xFD] id;
      s.NoFault ∧ (deviceStep s).Fetches ∧ illegalBytes.contains ((deviceStep s).busRead (deviceStep s).pc) = true) :=
  ⟨⟨rfl, ⟨by decide, by decide⟩, by decide⟩, ⟨rfl, ⟨by decide, by decide⟩, by decide⟩⟩

/-- No fault is recorded at reset. -/
theorem witness_EveryCycleCompletes : State.reset.NoFault := rfl

/-- Well-formed instructions with operands at the ends of their ranges. -/
theorem witness_DecodeOfEncode :
    [Instr.ldAN8 0x00, .ldAN8 0xFF, .jpN16 0x0000, .jpN16 0xFFFF, .illegal 0xD3, .illegal 0xFD, .stop, .set7A].all
      Instr.wellFormed = true := by decide

/-- The ends of the decimal range. -/
theorem witness_DecimalAdjustIsDecimal : (0 : Nat) < 100 ∧ (99 : Nat) < 100 := by decide

/-- The ends of the bit places of a byte. -/
theorem witness_BitwiseAndShiftFunctions : (0 : Nat) < 8 ∧ (7 : Nat) < 8 := by decide

/-- Values of 0 and of 16 bits. -/
theorem witness_PackedResultsAndSelectors :
    (0 : Nat) ≤ 16 ∧ (16 : Nat) ≤ 16 ∧ AluResult.pack (⟨0xFFFF, true, true, true, true⟩ : AluResult 16) = 0xFFFFF0 := by
  decide

/-- `LD (HL),A`, `LD A,(HL)` and `LD A,A` are not the HALT word. -/
theorem witness_ByteLoads :
    ¬((6 : BitVec 3) = 6 ∧ (7 : BitVec 3) = 6) ∧ ¬((7 : BitVec 3) = 6 ∧ (6 : BitVec 3) = 6) ∧
      ¬((7 : BitVec 3) = 6 ∧ (7 : BitVec 3) = 6) := by decide

/-- POP AF answers a next state. -/
theorem witness_SixteenBitLoadsAndStack :
    ∃ t, exec (decode3 0xF1 0 0) (returnStacked State.reset) = .next t ∧ t.regs.f = 0x50 := ⟨_, rfl, by decide⟩

/-- ADD, SBC and CP. -/
theorem witness_ArithmeticOfAWithOperand :
    ((0 : BitVec 3) < 4 ∨ (0 : BitVec 3) = 7) ∧ ((3 : BitVec 3) < 4 ∨ (3 : BitVec 3) = 7) ∧
      ((7 : BitVec 3) < 4 ∨ (7 : BitVec 3) = 7) := by decide

/-- AND and OR. -/
theorem witness_LogicOfAWithOperand :
    (4 : BitVec 3) ≤ 4 ∧ (4 : BitVec 3) < 7 ∧ (4 : BitVec 3) ≤ 6 ∧ (6 : BitVec 3) < 7 := by decide

/-- RLC and RR. -/
theorem witness_Rotates : (0 : BitVec 3) < 4 ∧ (3 : BitVec 3) < 4 := by decide

/-- SLA and SRL. -/
theorem witness_PrefixedShiftsAndSwap : (4 : BitVec 3) ≤ 4 ∧ (4 : BitVec 3) ≤ 7 := by decide

/-- EI with `EI_DELAY` 0. -/
theorem witness_EiDelay_none :
    ∃ t, exec (decode3 0xFB 0 0) State.reset = .next t ∧ State.reset.eiDelay = false ∧ t.ime = true :=
  ⟨_, rfl, rfl, rfl⟩

/-- EI with `EI_DELAY` 1, then DI, EI, STOP, an illegal byte or NOP. -/
theorem witness_EiDelay_one :
    ∃ t, exec (decode3 0xFB 0 0) { State.reset with eiDelay := true } = .next t ∧ t.eiDelay = true ∧
      (∃ u, exec .di t = .next u ∧ u.ime = false) ∧ (∃ u, exec .ei t = .next u ∧ u.imePending = true) ∧
      (∃ u, exec .stop t = .next u ∧ u.imePending = true) ∧ (∃ u, exec (.illegal 0xDD) t = .next u ∧ u.ime = false) ∧
      (∃ u, exec .nop t = .next u ∧ u.ime = true) :=
  ⟨_, rfl, rfl, ⟨_, rfl, rfl⟩, ⟨_, rfl, rfl⟩, ⟨_, rfl, rfl⟩, ⟨_, rfl, rfl⟩, ⟨_, rfl, rfl⟩⟩

/-- ADD A,B writes neither B nor SP; `INC B` keeps C. -/
theorem witness_RegisterFrame :
    (∃ t, exec (decode3 0x80 0 0) State.reset = .next t ∧ Reg8.b ∉ registersWritten 0x80 0 ∧ (0x80 : Byte) ∉ spWriters) ∧
    (∃ t, exec (decode3 0x04 0 0) State.reset = .next t ∧ flagsWritten 0x04 0 = 0xE0) :=
  ⟨⟨_, rfl, by decide, by decide⟩, ⟨_, rfl, by decide⟩⟩

/-- NOP, for the clauses about what stays; EI, for the one about IME set. -/
theorem witness_ControlStateFrame :
    (∃ t, exec (decode3 0x00 0 0) State.reset = .next t ∧ (0x00 : Byte) ∉ [0xF3, 0xFB, 0xD9] ∧
      (State.reset.eiDelay && State.reset.imePending) = false ∧ (0x00 : Byte) ≠ 0x76 ∧ (0x00 : Byte) ≠ 0x10 ∧
      illegalBytes.contains 0x00 = false) ∧
    (∃ t, exec (decode3 0xFB 0 0) State.reset = .next t ∧ State.reset.ime = false ∧ t.ime = true) :=
  ⟨⟨_, rfl, by decide, by decide, by decide, by decide, by decide⟩, ⟨_, rfl, rfl, rfl⟩⟩

/-- A form that stores two bytes, one that stores one and one that stores nothing. -/
theorem witness_OnlyStoresChangeDevices :
    (∃ t, exec (decode3 0xC5 0 0) State.reset = .next t ∧ storesTo 0xC5 0 0 State.reset = [0xFFFF, 0xFFFE]) ∧
    (∃ t, exec (decode3 0xEA 0x45 0xFF) State.reset = .next t ∧ storesTo 0xEA 0x45 0xFF State.reset = [0xFF45]) ∧
    (∃ t, exec (decode3 0xCB 0x46 0) State.reset = .next t ∧ storesTo 0xCB 0x46 0 State.reset = []) :=
  ⟨⟨_, exec_sharedOp _ _, by decide⟩, ⟨_, exec_sharedOp _ _, by decide⟩, ⟨_, exec_sharedOp _ _, by decide⟩⟩

/-- A store to LYC leaves the neighbouring LY; a form that stores nothing leaves every address. -/
theorem witness_MemoryFrame :
    State.reset.mem.wf = true ∧
    (∃ t, exec (decode3 0xEA 0x45 0xFF) State.reset = .next t ∧
      ∀ w ∈ storesTo 0xEA 0x45 0xFF State.reset, canChange State.reset w 0xFF44 = false) ∧
    (∃ t, exec (decode3 0xCB 0x46 0) State.reset = .next t ∧
      ∀ w ∈ storesTo 0xCB 0x46 0 State.reset, canChange State.reset w 0xC000 = false) :=
  ⟨by decide,
    ⟨_, exec_sharedOp _ _, fun w hw => by
      rw [show storesTo 0xEA 0x45 0xFF State.reset = [0xFF45] from by decide] at hw
      rw [List.mem_singleton.mp hw]
      decide⟩,
    ⟨_, exec_sharedOp _ _, fun w hw => by
      rw [show storesTo 0xCB 0x46 0 State.reset = [] from by decide] at hw
      exact absurd hw List.not_mem_nil⟩⟩

/-- A word that sets no PC, and a conditional jump that is not taken. -/
theorem witness_PcAndCyclesOfEveryInstruction :
    ((0xFE : Byte) ≠ 0x10 ∧ illegalBytes.contains 0xFE = false ∧ (0xFE : Byte) ∉ pcWriters) ∧
    ((0xCA : Byte) ≠ 0x10 ∧ illegalBytes.contains 0xCA = false ∧ taken State.reset 0xCA = false) := by decide

/-- The components in the opposite order; one that answers at 0xFFFF, and an address that none answers. -/
theorem witness_AttachmentOrderDecidesNoRead :
    busComponents.reverse.Perm busComponents ∧
    (∃ c ∈ busComponents.reverse, Component.read State.reset 0xFFFF c = some 0) ∧
    (∀ c ∈ busComponents.reverse, Component.read State.reset 0xFF7F c = none) :=
  ⟨List.reverse_perm _, by decide, by decide⟩

/-- The edges of the storage areas and of the echo range; a store that another read does not see. -/
theorem witness_StoresToMemory :
    State.reset.mem.wf = true ∧ canChange State.reset 0xFF04 0xFF06 = false ∧
    ([0x8000, 0x9FFF, 0xC000, 0xDFFF, 0xFE00, 0xFE9F, 0xFF80, 0xFFFE].all isStorage) = true ∧
    (isStorage (0xDDFF : Word).toNat = true ∧ 0xC000 ≤ (0xDDFF : Word).toNat ∧ (0xDDFF : Word).toNat < 0xDE00) := by
  decide

/-- The edges of the unmapped ranges, and a machine with a boot ROM. -/
theorem witness_UnmappedAddressesAndBootOverlay :
    ([0xFEA0, 0xFEFF, 0xFF01, 0xFF03, 0xFF08, 0xFF10, 0xFF3F, 0xFF4C, 0xFF50, 0xFF7F].all isUnmapped) = true ∧
    (0xFF7F : Word) ≠ 0xFF50 ∧
    (State.resetWith (some (Vector.replicate 256 0x31)) false .romOnly []).bootRom = some (Vector.replicate 256 0x31) ∧
    (State.resetWith (some (Vector.replicate 256 0x31)) false .romOnly []).bootRomEnabled = true :=
  ⟨by decide, by decide, rfl, rfl⟩

/-- The first and the last of the plain registers. -/
theorem witness_RegistersReadBack :
    (0xFF42 : Word) ∈ [0xFF42, 0xFF43, 0xFF45, 0xFF46, 0xFF47, 0xFF48, 0xFF49, 0xFF4A, 0xFF4B] ∧
    (0xFF4B : Word) ∈ [0xFF42, 0xFF43, 0xFF45, 0xFF46, 0xFF47, 0xFF48, 0xFF49, 0xFF4A, 0xFF4B] := by decide

/-- Line 0, and line 4 with no lower line pending. -/
theorem witness_CpuActsByTheInterruptCheck_service :
    (let s := lines true 0xFF 0xFF State.reset;
      s.ime = true ∧ s.idle = false ∧ (0 < 5) ∧ (s.ie &&& s.iflag).getLsbD 0 = true ∧
        ∀ j, j < 0 → (s.ie &&& s.iflag).getLsbD j = false) ∧
    (let s := lines true 0xFF 0xF0 State.reset;
      s.ime = true ∧ s.idle = false ∧ (4 < 5) ∧ (s.ie &&& s.iflag).getLsbD 4 = true ∧
        ∀ j, j < 4 → (s.ie &&& s.iflag).getLsbD j = false) := by decide

/-- IME 0 with a line pending, and IME 1 with none. -/
theorem witness_CpuActsByTheInterruptCheck_fetch :
    ((lines false 0x01 0x01 State.reset).idle = false ∧ (lines false 0x01 0x01 State.reset).ime = false) ∧
    ((lines true 0x01 0xE0 State.reset).idle = false ∧
      (lines true 0x01 0xE0 State.reset).ie &&& (lines true 0x01 0xE0 State.reset).iflag &&& 0x1F = 0) := by decide

/-- VBlank's request lost by its service; the timer's by a store to IF. -/
theorem witness_PendingBitsAreNotLost :
    (∃ t, step (lines true 0x01 0x01 State.reset) = .next t ∧ t.iflag.getLsbD 0 = false) ∧
    (∃ t, step (lines false 0x04 0x04 (placed 0xC100 [0xE0, 0x0F] id)) = .next t ∧ t.iflag.getLsbD 2 = false) :=
  ⟨⟨_, rfl, by decide⟩, ⟨_, rfl, by decide⟩⟩

/-- A CPU halted with no line enabled. -/
theorem witness_DeadHaltNeverWakes :
    let s : State := { State.reset with run := .halted, ie := 0xE0, iflag := 0x1F }
    s.NoFault ∧ s.deadHalt = true := ⟨rfl, by decide⟩

/-- A target in the past; the present cycle and the next as targets, with no fault; a fault before the target, and
in the very cycle before it. -/
theorem witness_RunUntilReachesItsTarget :
    (({ State.reset with cycle := 1 } : State).NoFault ∧ 0 < ({ State.reset with cycle := 1 } : State).cycle) ∧
    (State.reset.NoFault ∧ State.reset.cycle ≤ 0 ∧ (State.reset.runUntil 0).NoFault ∧ State.reset.cycle ≤ 1 ∧
      (State.reset.runUntil 1).NoFault) ∧
    ((placed 0x0150 [0x10, 0x00] id).NoFault ∧ (placed 0x0150 [0x10, 0x00] id).cycle ≤ 1 ∧
      ((placed 0x0150 [0x10, 0x00] id).runUntil 5).fault = some (.stopUnimplemented 0x0150) ∧
      ((placed 0x0150 [0x10, 0x00] id).runUntil 1).fault = some (.stopUnimplemented 0x0150) ∧
      ((placed 0x0150 [0x10, 0x00] id).runUntil 5).cycle = 1) :=
  ⟨⟨rfl, by decide⟩, ⟨rfl, by decide, rfl, by decide, rfl⟩, ⟨rfl, by decide, rfl, rfl, rfl⟩⟩

/-- 64 increments up to TIMA's last value. -/
theorem witness_TimaFrequency :
    (timed 0 0xBF 0 0x05).timer.tima.toNat +
      ((timed 0 0xBF 0 0x05).timer.div16.toNat + 4 * 256) / timaPeriod ((0x05 : Byte).extractLsb' 0 2) = 255 := by decide

/-- Bit 7 of LCDC cleared, set and kept. -/
theorem witness_DisplayOffAndOn :
    ((0x80 : Byte).getLsbD 7 = true ∧ (0x7F : Byte).getLsbD 7 = false) ∧
    (State.reset.lcd.lcdc.getLsbD 7 = (0xFF : Byte).getLsbD 7) := by decide

/-- The line and the cycle in it of a display's cycle. -/
def placeOf (cycle : Nat) : Nat × Nat :=
  ((cycle - State.reset.lcd.lineOrigin) % 17556 / 114, (cycle - State.reset.lcd.lineOrigin) % 17556 % 114)

/-- A cycle of each clause, at the edges of the visible lines and of V-blank; both states of the display. -/
theorem witness_FrameTiming :
    placeOf 0 = (0, 0) ∧ placeOf 114 = (1, 0) ∧ placeOf 16302 = (143, 0) ∧ placeOf 16416 = (144, 0) ∧
    placeOf 16530 = (145, 0) ∧ placeOf 17442 = (153, 0) ∧ placeOf 16322 = (143, 20) ∧ placeOf 16365 = (143, 63) ∧
    placeOf 16436 = (144, 20) ∧ placeOf 17555 = (153, 113) ∧ State.reset.lcd.power = .on ∧
    (State.reset.busWrite 0xFF40 0x00).lcd.power = .off := by decide

/-- The step that enters line 144, and one that does not. -/
theorem witness_ImageChangesOnlyAtVBlank :
    (∃ t, step (display 16416 0x00 143) = .next t ∧ t.lcd.framesCompleted = 1) ∧
    (∃ t, step (display 16415 0x00 143) = .next t ∧ t.lcd.framesCompleted = 0) := ⟨⟨_, rfl, rfl⟩, ⟨_, rfl, rfl⟩⟩

/-- The window at its first and at its last column; a column before it; the background on and off. -/
theorem witness_BackgroundAndWindowPixels :
    let visible := fun (l : Lcd) (ly : Nat) => l.lcdc.getLsbD 5 = true ∧ l.wy.toNat ≤ ly ∧ 7 ≤ l.wx.toNat ∧ l.wx.toNat ≤ 166
    let left : Lcd := { Lcd.reset with lcdc := 0xA1, wx := 7 }
    let right : Lcd := { Lcd.reset with lcdc := 0xA0, wx := 166 }
    (visible left 0 ∧ left.wx.toNat ≤ 0 + 7) ∧ (visible right 0 ∧ right.wx.toNat ≤ 159 + 7) ∧
    ¬(visible right 0 ∧ right.wx.toNat ≤ 158 + 7) ∧ right.lcdc.getLsbD 0 = false ∧
    ¬(visible { left with wx := 6 } 0 ∧ 6 ≤ 159 + 7) ∧ left.lcdc.getLsbD 0 = true := by decide

/-- The first and the last visible line; a row that is not the rendered one. -/
theorem witness_RenderedPixels :
    (0 < 144) ∧ (143 < 144) ∧ 143 < Config.lcdHeight ∧ (⟨0, by decide⟩ : Fin Config.lcdHeight).val ≠ 143 := by decide

/-- A sprite on its first and last row, and the columns at its edges. -/
theorem witness_SpritePixels :
    let o : Sprite := oamEntry [(0xFE00, 16), (0xFE01, 8), (0xFE02, 1)] 0
    Sprite.covers (spriteHeight 0x82) 0 o = true ∧ Sprite.covers (spriteHeight 0x82) 7 o = true ∧
    Sprite.covers (spriteHeight 0x86) 15 o = true ∧
    (o.x.toNat ≤ 0 + 8 ∧ 0 + 8 < o.x.toNat + 8) ∧ (o.x.toNat ≤ 7 + 8 ∧ 7 + 8 < o.x.toNat + 8) ∧ o.x.toNat ≤ 8 := by decide

/-- Two memories that differ in work RAM only. -/
theorem witness_RenderingReadsVideoMemoryOnly :
    (144 ≤ 144) ∧ ([] : Mem) ≠ [(0xC000, 0x01)] ∧
    (∀ a, 0x8000 ≤ a → a < 0xA000 → Mem.read [] a = Mem.read [(0xC000, 0x01)] a) ∧
    (∀ a, 0xFE00 ≤ a → a < 0xFEA0 → Mem.read [] a = Mem.read [(0xC000, 0x01)] a) := by
  refine ⟨by decide, by decide, fun a _ h => ?_, fun a h _ => ?_⟩
  · simp only [Mem.read]; rw [if_pos (by omega)]
  · simp only [Mem.read]; rw [if_neg (by omega), if_neg (by omega)]

/-- The ends of a 32-bit vector. -/
theorem witness_BitVectorLaws : (0 < 32) ∧ (31 < 32) := by decide

/-- The ends of the window's range and of the columns. -/
theorem witness_PlanesGiveTheSamePixels :
    (0 < 160) ∧ (159 < 160) ∧ 7 ≤ (7 : Byte).toNat ∧ (7 : Byte).toNat ≤ 166 ∧ 7 ≤ (166 : Byte).toNat ∧
      (166 : Byte).toNat ≤ 166 := by decide

/-- A canonical memory, the ends of the page and addresses beside OAM. -/
theorem witness_DmaCopiesThePage :
    State.reset.mem.wf = true ∧ (0 < 160) ∧ (159 < 160) ∧ (0xFDFF : Word).toNat < 0xFE00 ∧
      0xFEA0 ≤ (0xFEA0 : Word).toNat := by decide

/-- The machine after reset meets the invariant, and it steps. -/
theorem witness_EveryStepKeepsTheInvariant : State.reset.Inv ∧ ∃ t, step State.reset = .next t :=
  ⟨{ core := ⟨by decide, by decide, fun _ => rfl, (fun h => by cases h), ⟨by decide, (fun h => by cases h)⟩, by decide⟩
     display := ⟨by decide, by decide, (fun h => by cases h), fun _ _ => by decide, fun h => absurd h.2 (by decide),
       fun h => absurd h.2 (by decide),
       fun h => h.elim ((fun h => by cases h)) (fun h => absurd h.2 (by decide)), by decide,
       fun h => absurd h.2 (by decide)⟩
     active := by decide }, _, rfl⟩

end Sys2Proof.Tests
end

section
/-! PROOFS. Recorded faults (R14, R35, R219, R220): how a faulted machine stands still, how STOP and an illegal byte
record their fault, and the whole step of a CPU that comes to one of them. -/

namespace Sys2Proof.Machine

/-! ### A recorded fault stays -/

/-- A machine with a recorded fault takes no further step (R14). -/
theorem step_faulted {s : State} {f : Fault} (h : s.fault = some f) : step s = .fault f := by
  simp [step, cycleStep, h]

/-- `runUntil` on a faulted machine changes nothing (R221). -/
theorem State.runUntil_faulted {s : State} {f : Fault} (h : s.fault = some f) (target : Nat) :
    s.runUntil target = s := by
  simp [State.runUntil, h]

/-- A recorded fault is not replaced (R35). -/
theorem State.raiseFault_fault_of_faulted {s : State} {f : Fault} (h : s.fault = some f) (g : Fault) :
    (s.raiseFault g).fault = some f := by
  simp [h]

/-- The first fault is recorded, and nothing else changes (R35). -/
theorem State.raiseFault_of_noFault {s : State} (h : s.NoFault) (f : Fault) :
    s.raiseFault f = { s with fault := some f } := by
  have hs : s.fault = none := h
  simp [State.raiseFault, hs]

/-! ### STOP and the bytes without an instruction -/

theorem decode3_stop (b1 b2 : Byte) : decode3 0x10 b1 b2 = .stop := rfl

/-- Each of the 11 bytes decodes to itself as an illegal byte, whatever follows it (R96). -/
theorem decode3_illegal {op : Byte} (h : op ∈ illegalBytes) (b1 b2 : Byte) : decode3 op b1 b2 = .illegal op := by
  simp only [illegalBytes, List.mem_cons, List.not_mem_nil, or_false] at h
  obtain rfl | rfl | rfl | rfl | rfl | rfl | rfl | rfl | rfl | rfl | rfl := h <;> rfl

theorem exec_stop (s : State) : exec .stop s = .next (s.raiseFault (.stopUnimplemented s.pc)) := rfl

theorem exec_illegal (op : Byte) (s : State) :
    exec (.illegal op) s = .next (s.raiseFault (.illegalOpcode s.pc op)) := rfl

/-! ### A cycle in which the CPU fetches -/

@[simp] theorem State.wake_pc (s : State) : s.wake.pc = s.pc := by
  unfold State.wake
  split <;> rfl

@[simp] theorem State.wake_cycle (s : State) : s.wake.cycle = s.cycle := by
  unfold State.wake
  split <;> rfl

@[simp] theorem State.wake_fault (s : State) : s.wake.fault = s.fault := by
  unfold State.wake
  split <;> rfl

/-- Waking up changes neither PC nor what the bus answers, so the woken CPU fetches the same instruction. -/
@[simp] theorem State.wake_fetch (s : State) : s.wake.fetch = s.fetch := by
  unfold State.wake
  split <;> rfl

/-- Where the CPU fetches, the step is the devices' steps, then the fetched instruction, then the cycle's count. -/
theorem step_of_fetches {s t : State} (h : s.NoFault) (hf : (deviceStep s).Fetches)
    (he : exec (deviceStep s).fetch (deviceStep s).wake = .next t) : step s = .next t.nextCycle := by
  obtain ⟨hidle, hserve⟩ := hf
  have hs : s.fault = none := h
  simp [step, cycleStep, cpuStep, hs, hidle, hserve, he]

/-- Where the fetched instruction only raises a fault, the step wakes the CPU, records the fault and counts the
cycle. -/
theorem step_of_fetch_raisesFault {s : State} {f : Fault} (h : s.NoFault) (hf : (deviceStep s).Fetches)
    (he : exec (deviceStep s).fetch (deviceStep s).wake = .next ((deviceStep s).wake.raiseFault f)) :
    step s = .next { (deviceStep s).wake with fault := some f, cycle := (deviceStep s).cycle + 1 } := by
  have hwake : (deviceStep s).wake.NoFault := by
    have hs : s.fault = none := h
    simp [State.NoFault, hs]
  rw [step_of_fetches h hf he, State.raiseFault_of_noFault hwake]
  simp [State.nextCycle]

theorem step_at_stop {s : State} (h : s.NoFault) (hf : (deviceStep s).Fetches)
    (hb : (deviceStep s).busRead (deviceStep s).pc = 0x10) :
    step s = .next { (deviceStep s).wake with
      fault := some (.stopUnimplemented (deviceStep s).pc), cycle := (deviceStep s).cycle + 1 } := by
  refine step_of_fetch_raisesFault h hf ?_
  rw [State.fetch, hb, decode3_stop, exec_stop, State.wake_pc]

theorem step_at_illegal {s : State} (h : s.NoFault) (hf : (deviceStep s).Fetches)
    (hb : (deviceStep s).busRead (deviceStep s).pc ∈ illegalBytes) :
    step s = .next { (deviceStep s).wake with
      fault := some (.illegalOpcode (deviceStep s).pc ((deviceStep s).busRead (deviceStep s).pc)),
      cycle := (deviceStep s).cycle + 1 } := by
  refine step_of_fetch_raisesFault h hf ?_
  rw [State.fetch, decode3_illegal hb, exec_illegal, State.wake_pc]

/-- Settles O5: a recorded fault stops `step` and `runUntil` and outlives other faults; STOP and the illegal bytes do
no more than raise theirs; and a step that fetches one adds only the devices' steps, the wake-up and the cycle. -/
theorem faultsStopTheMachine : Obligations.FaultsStopTheMachine := by
  unfold Obligations.FaultsStopTheMachine
  refine ⟨fun s f h => ⟨step_faulted h, State.runUntil_faulted h, State.raiseFault_fault_of_faulted h⟩,
    fun s b1 b2 h => ⟨?_, step_faulted rfl, fun op hop => ⟨decode3_illegal hop b1 b2, ?_, step_faulted rfl⟩⟩,
    fun s h hf => ⟨step_at_stop h hf, fun hb => step_at_illegal h hf (List.contains_iff_mem.mp hb)⟩⟩
  · rw [decode3_stop, exec_stop, State.raiseFault_of_noFault h]
  · rw [decode3_illegal hop, exec_illegal, State.raiseFault_of_noFault h]

end Sys2Proof.Machine
end

section
/-! PROOFS. Reads of the bus in every attachment order (spec 20_memory.md R58 to R63): one component answers at an
address at most, so the first that answers is the only one. -/

namespace Sys2Proof.Machine

/-! ### No two components own one address -/

/-- The component that owns an address (R63). An address no component answers is put with the CPU's, which answers
nothing there either. -/
def responder (s : State) (n : Nat) : Component :=
  if n < 0x8000 ∨ (0xA000 ≤ n ∧ n < 0xC000) then (if s.overlayOn = true ∧ n < 0x100 then .bootRom else .cartridge)
  else if n < 0xA000 ∨ (0xFE00 ≤ n ∧ n < 0xFEA0) ∨ (0xFF40 ≤ n ∧ n ≤ 0xFF4B) then .lcd
  else if n < 0xFE00 then .workRam
  else if n = 0xFF00 then .joypad
  else if 0xFF04 ≤ n ∧ n ≤ 0xFF07 then .timer
  else .cpu

/-- Where work RAM keeps an address: the same place modulo its size (R68). -/
theorem workRamPlace_eq_some_iff {n p : Nat} :
    workRamPlace n = some p ↔
      0xC000 ≤ n ∧ n < 0xFE00 ∧ 0xC000 ≤ p ∧ p < 0xE000 ∧ p % 0x2000 = n % 0x2000 := by
  unfold workRamPlace
  split_ifs <;> simp only [Option.some.injEq, false_iff] <;> omega

theorem Timer.regRead_bounds {t : Timer} {n : Nat} {v : Byte} (h : t.regRead n = some v) :
    0xFF04 ≤ n ∧ n ≤ 0xFF07 := by
  by_contra hn
  rw [t.regRead_other (by omega)] at h
  cases h

theorem Lcd.regRead_bounds {l : Lcd} {n : Nat} {v : Byte} (h : l.regRead n = some v) :
    0xFF40 ≤ n ∧ n ≤ 0xFF4B := by
  by_contra hn
  rw [l.regRead_other (by omega)] at h
  cases h

/-- A component that answers at an address owns it. -/
theorem Component.eq_responder {s : State} {a : Word} {c : Component} {v : Byte}
    (h : Component.read s a c = some v) : c = responder s a.toNat := by
  unfold responder
  cases c with
  | bootRom =>
    simp only [Component.read, Option.ite_none_right_eq_some, Bool.and_eq_true, decide_eq_true_eq] at h
    rw [if_pos (by omega), if_pos h.1]
  | cartridge =>
    simp only [Component.read, Option.ite_none_right_eq_some, Bool.and_eq_true, Bool.not_eq_true',
      Bool.and_eq_false_iff, decide_eq_false_iff_not, inCartridge_iff] at h
    obtain ⟨⟨hin, hoverlay⟩, -⟩ := h
    rw [if_pos hin, if_neg]
    rintro ⟨hon, hlow⟩
    simp [hon, hlow] at hoverlay
  | workRam =>
    obtain ⟨p, hp, -⟩ := Option.map_eq_some_iff.mp h
    rw [workRamPlace_eq_some_iff] at hp
    rw [if_neg (by omega), if_neg (by omega), if_pos (by omega)]
  | joypad =>
    simp only [Component.read, Option.ite_none_right_eq_some] at h
    rw [if_neg (by omega), if_neg (by omega), if_neg (by omega), if_pos h.1]
  | timer =>
    have owned := Timer.regRead_bounds h
    rw [if_neg (by omega), if_neg (by omega), if_neg (by omega), if_neg (by omega), if_pos owned]
  | lcd =>
    have owned : inLcdMemory a.toNat = true ∨ (0xFF40 ≤ a.toNat ∧ a.toNat ≤ 0xFF4B) := by
      by_cases hm : inLcdMemory a.toNat = true
      · exact .inl hm
      · exact .inr (Lcd.regRead_bounds (by simpa [Component.read, hm] using h))
    rw [inLcdMemory_iff] at owned
    rw [if_neg (by omega), if_pos (by omega)]
  | cpu =>
    have owned : 0xFF80 ≤ a.toNat ∨ a.toNat = 0xFF0F := by
      by_contra hn
      have hh : inHighRam a.toNat = false := by
        rw [Bool.eq_false_iff, Ne, inHighRam_iff]; omega
      simp [Component.read, hh, show ¬ a.toNat = 0xFF0F by omega, show ¬ a.toNat = 0xFFFF by omega] at h
    rw [if_neg (by omega), if_neg (by omega), if_neg (by omega), if_neg (by omega), if_neg (by omega)]

/-- All components that answer at an address answer the same, for they are one component. -/
theorem Component.read_unique {s : State} {a : Word} {c d : Component} {v w : Byte}
    (hc : Component.read s a c = some v) (hd : Component.read s a d = some w) : v = w := by
  have same : c = d := (Component.eq_responder hc).trans (Component.eq_responder hd).symm
  subst same
  exact Option.some.inj (hc.symm.trans hd)

/-- A bus answers what any of its components answers, wherever in the order it stands (R60). -/
theorem busReadFrom_of_answers {cs : List Component} {s : State} {a : Word} {c : Component} {v : Byte} (hc : c ∈ cs)
    (h : Component.read s a c = some v) : busReadFrom cs s a = v := by
  unfold busReadFrom
  cases hf : cs.findSome? (Component.read s a) with
  | none =>
    rw [List.findSome?_eq_none_iff] at hf
    rw [hf c hc] at h
    cases h
  | some w =>
    obtain ⟨d, -, hd⟩ := List.exists_of_findSome?_eq_some hf
    exact Component.read_unique hd h

/-- A bus on which no component answers reads as unmapped (R60). -/
theorem busReadFrom_of_silent {cs : List Component} {s : State} {a : Word}
    (h : ∀ c ∈ cs, Component.read s a c = none) : busReadFrom cs s a = 0xFF := by
  unfold busReadFrom
  rw [List.findSome?_eq_none_iff.mpr h]
  rfl

/-- Two buses of the same components read the same. -/
theorem busReadFrom_perm {cs ds : List Component} (h : cs.Perm ds) (s : State) (a : Word) :
    busReadFrom cs s a = busReadFrom ds s a := by
  by_cases hs : ∀ c ∈ cs, Component.read s a c = none
  · rw [busReadFrom_of_silent hs, busReadFrom_of_silent fun d hd => hs d (h.mem_iff.mpr hd)]
  · push Not at hs
    obtain ⟨c, hc, hanswers⟩ := hs
    obtain ⟨v, hv⟩ := Option.ne_none_iff_exists'.mp hanswers
    rw [busReadFrom_of_answers hc hv, busReadFrom_of_answers (h.mem_iff.mp hc) hv]

/-- Settles O38: every component that answers is the address's one owner, so the first that answers is the same in
every order. -/
theorem attachmentOrderDecidesNoRead : Obligations.AttachmentOrderDecidesNoRead := by
  unfold Obligations.AttachmentOrderDecidesNoRead
  intro cs s a hperm
  exact ⟨busReadFrom_perm hperm s a, fun c hc v hv => busReadFrom_of_answers (hperm.mem_iff.mp hc) hv,
    fun hs => busReadFrom_of_silent fun c hc => hs c (hperm.mem_iff.mpr hc)⟩

end Sys2Proof.Machine
end

section
/-! PROOFS. What a store does to later reads (spec 20_memory.md R61, R66 to R69, R73, R77): each kind of write changes
the answers at its own address and at those its side effects reach, and storage gives back the byte stored. -/

namespace Sys2Proof.Machine

open Sys2Proof.Rules

/-! ### What a read sees -/

/-- A read is decided by what each component answers. -/
theorem State.busRead_congr {s t : State} {a : Word} (h : ∀ c, Component.read t a c = Component.read s a c) :
    t.busRead a = s.busRead a := by
  unfold State.busRead busReadFrom
  rw [funext h]

/-- A read sees the devices, the interrupt registers and memory, and nothing that is the CPU's own. -/
theorem State.busRead_of_devicePart {s t : State} (h : t.devicePart = s.devicePart) (a : Word) :
    t.busRead a = s.busRead a := by
  refine State.busRead_congr fun c => ?_
  cases s
  cases t
  simp only [State.devicePart, DevicePart.mk.injEq] at h
  obtain ⟨rfl, rfl, rfl, rfl, rfl, rfl, rfl, rfl, rfl, rfl, rfl, rfl⟩ := h
  cases c <;> rfl

/-- A byte of RAM written shows only at its own address, and in work RAM at the mirror's (R68). -/
theorem State.busRead_poke {s : State} (h : s.mem.wf = true) {n : Nat} (v : Byte) {a : Word}
    (ha : a.toNat ≠ n) (hw : workRamPlace a.toNat ≠ some n) : (s.poke n v).busRead a = s.busRead a := by
  have other : ∀ m, m ≠ n → Mem.read (s.poke n v).mem m = Mem.read s.mem m := fun m hm => Mem.read_write_other h v hm
  refine State.busRead_congr fun c => ?_
  cases c with
  | cartridge =>
    have byte : (s.poke n v).cartridgeByte a = s.cartridgeByte a := by
      simp only [State.cartridgeByte, other _ ha]; rfl
    simp only [Component.read, byte]
    rfl
  | workRam =>
    simp only [Component.read]
    cases hp : workRamPlace a.toNat with
    | none => rfl
    | some p => exact congrArg some (other p fun e => hw (e ▸ hp))
  | lcd => simp only [Component.read, other _ ha]; rfl
  | cpu => simp only [Component.read, other _ ha]; rfl
  | bootRom | joypad | timer => rfl

/-- A write that replaces registers of the timer, the LCD controller, the DMA engine and IF shows only at the
addresses of the registers that changed. -/
theorem State.busRead_withRegisters (s : State) {x : Timer} {y : Lcd} {f : Byte} {a : Word} (d : Dma)
    (hx : x.regRead a.toNat = s.timer.regRead a.toNat) (hy : y.regRead a.toNat = s.lcd.regRead a.toNat)
    (hf : a.toNat = 0xFF0F → f = s.iflag) :
    State.busRead { s with timer := x, lcd := y, dma := d, iflag := f } a = s.busRead a := by
  refine State.busRead_congr fun c => ?_
  cases c with
  | timer => exact hx
  | lcd => simp only [Component.read, hy]
  | cpu =>
    simp only [Component.read]
    split_ifs with hram hif
    · rfl
    · rw [hf hif]
    · rfl
    · rfl
  | bootRom | cartridge | workRam | joypad => rfl

/-- Disabling the boot ROM shows only in the first page (R52, R65). -/
theorem State.busRead_overlayOff (s : State) {a : Word} (h : 0x100 ≤ a.toNat) :
    State.busRead { s with bootRomEnabled := false } a = s.busRead a := by
  have hn : ¬ a.toNat < 0x100 := by omega
  refine State.busRead_congr fun c => ?_
  cases c with
  | bootRom | cartridge => simp [Component.read, hn, State.cartridgeByte]
  | workRam | joypad | timer | lcd | cpu => rfl

/-- A write to the cartridge shows only in its own window, and not even there where the cartridge is ROM alone
(R64). -/
theorem State.busRead_cartridgeWrite {s : State} {a : Word} (w : Word) (v : Byte)
    (hc : s.cartridge = .romOnly ∨ inCartridge a.toNat = false) : (s.cartridgeWrite w v).busRead a = s.busRead a := by
  unfold State.cartridgeWrite
  obtain hrom | hout := hc
  · rw [hrom]
  · rw [State.busRead_devices _ hout, State.busRead_devices _ hout]
    cases s.cartridge <;> rfl

/-! ### What a write to a device's register changes -/

/-- IF and STAT are all that the comparison of LY with LYC changes (R252). -/
theorem State.lycCompare_changes (s : State) :
    ∃ stat f, s.lycCompare = { s with lcd := { s.lcd with stat := stat }, iflag := f } := by
  unfold State.lycCompare
  dsimp only
  split <;> exact ⟨_, _, rfl⟩

/-- A write to LCDC changes, beside it, what turning the display off or on does (R253, R254). -/
theorem State.writeLcdc_changes (v : Byte) (s : State) :
    ∃ stat ly power origin f, s.writeLcdc v =
      { s with
        lcd := { s.lcd with lcdc := v, stat := stat, ly := ly, power := power, lineOrigin := origin }
        iflag := f } := by
  unfold State.writeLcdc
  dsimp only
  split_ifs
  · obtain ⟨stat, f, e⟩ := State.lycCompare_changes
      (State.setMode 0 { s with lcd := { s.lcd with lcdc := v, power := .off, ly := 0 } })
    exact ⟨_, _, _, _, _, e⟩
  · exact ⟨_, _, _, _, _, rfl⟩
  · exact ⟨_, _, _, _, _, rfl⟩

/-- A change of the divider and TAC changes, beside them, TIMA and IF at most (R244 to R247). -/
theorem State.timerEdge_changes (d : Word) (tac : Byte) (s : State) :
    ∃ tima f, s.timerEdge d tac = { s with timer := ⟨d, tima, s.timer.tma, tac⟩, iflag := f } := by
  unfold State.timerEdge State.incrementTima
  dsimp only
  split_ifs <;> exact ⟨_, _, rfl⟩

/-- A timer write changes the timer at its own address and at its side effects', and IF where that is one (R77). -/
theorem State.timerWrite_changes (n : Nat) (v : Byte) (s : State) :
    ∃ x f, s.timerWrite n v = { s with timer := x, iflag := f } ∧
      (∀ m, m ≠ n → m ∉ sideEffects n → x.regRead m = s.timer.regRead m) ∧
      (0xFF0F ∉ sideEffects n → f = s.iflag) := by
  unfold State.timerWrite
  split
  case' h_1 =>
    obtain ⟨tima, f, e⟩ := s.timerEdge_changes 0 s.timer.tac
    refine ⟨_, _, e, fun m hm hs => ?_, fun hs => absurd (by decide) hs⟩
  case' h_4 =>
    obtain ⟨tima, f, e⟩ := s.timerEdge_changes s.timer.div16 v
    refine ⟨_, _, e, fun m hm hs => ?_, fun hs => absurd (by decide) hs⟩
  case' h_2 | h_3 | h_5 => refine ⟨_, _, rfl, fun m hm hs => ?_, fun hs => rfl⟩
  all_goals
    unfold Timer.regRead
    split <;> simp_all [sideEffects]

/-- An LCD write changes the controller at its own address and at its side effects', and IF where that is one
(R77). -/
theorem State.lcdRegWrite_changes (n : Nat) (v : Byte) (s : State) :
    ∃ y d f, s.lcdRegWrite n v = { s with lcd := y, dma := d, iflag := f } ∧
      (∀ m, m ≠ n → m ∉ sideEffects n → y.regRead m = s.lcd.regRead m) ∧
      (0xFF0F ∉ sideEffects n → f = s.iflag) := by
  unfold State.lcdRegWrite
  split
  case' h_1 =>
    obtain ⟨stat, ly, power, origin, f, e⟩ := s.writeLcdc_changes v
    refine ⟨_, _, _, e, fun m hm hs => ?_, fun hs => absurd (by decide) hs⟩
  case' h_5 =>
    obtain ⟨stat, f, e⟩ := State.lycCompare_changes { s with lcd := { s.lcd with lyc := v } }
    refine ⟨_, _, _, e, fun m hm hs => ?_, fun hs => absurd (by decide) hs⟩
  case' h_2 | h_3 | h_4 | h_6 | h_7 | h_8 | h_9 | h_10 | h_11 | h_12 =>
    refine ⟨_, _, _, rfl, fun m hm hs => ?_, fun hs => rfl⟩
  all_goals
    unfold Lcd.regRead
    split <;> simp_all [sideEffects]

/-! ### A store disturbs no other read -/

/-- Two addresses are one byte of work RAM where both lie in it or its echo, at one place modulo its size (R68). -/
theorem sameWorkRam_eq_true_iff (w a : Nat) :
    sameWorkRam w a = true ↔
      0xC000 ≤ w ∧ w < 0xFE00 ∧ 0xC000 ≤ a ∧ a < 0xFE00 ∧ w % 0x2000 = a % 0x2000 := by
  simp [sameWorkRam, and_assoc]

/-- What it takes for a store to leave a read alone, kind by kind. -/
theorem canChange_eq_false_iff (s : State) (w a : Word) :
    canChange s w a = false ↔
      a.toNat ≠ w.toNat ∧ ¬ sameWorkRam w.toNat a.toNat = true ∧ a.toNat ∉ sideEffects w.toNat ∧
      (w = 0xFF50 → 0x100 ≤ a.toNat) ∧
      (s.cartridge = .romOnly ∨ inCartridge w.toNat = false ∨ inCartridge a.toNat = false) := by
  rw [Ne, BitVec.toNat_inj, eq_comm (a := a)]
  simp [canChange, Classical.or_iff_not_imp_left, and_assoc]

/-- The five kinds of address (R63). -/
theorem address_cases (n : Nat) :
    inCartridge n = true ∨ inLcdMemory n = true ∨ (0xC000 ≤ n ∧ n < 0xFE00) ∨ inHighRam n = true ∨
      (0xFEA0 ≤ n ∧ inHighRam n = false) := by
  rw [← Bool.not_eq_true, inCartridge_iff, inLcdMemory_iff, inHighRam_iff]
  omega

/-- A write to work RAM stores one byte, at the address's place (R68). -/
theorem State.busWrite_workRamPlace {w : Word} (v : Byte) (s : State) (hw : 0xC000 ≤ w.toNat) (hw' : w.toNat < 0xFE00) :
    ∃ p, workRamPlace w.toNat = some p ∧ s.busWrite w v = s.poke p v :=
  ⟨_, workRamPlace_inside hw hw', State.busWrite_workRam v s hw hw'⟩

section
variable {s : State} {w a : Word} (v : Byte)

/-- A write to an I/O register shows at that register and at its side effects, and one to 0xFF50 in the first page. -/
theorem State.busRead_busWrite_register (hw : 0xFEA0 ≤ w.toNat) (hram : inHighRam w.toNat = false)
    (hne : a.toNat ≠ w.toNat) (hs : a.toNat ∉ sideEffects w.toNat) (hb : w = 0xFF50 → 0x100 ≤ a.toNat) :
    (s.busWrite w v).busRead a = s.busRead a := by
  rw [State.busWrite_register v s hw hram]
  split_ifs with hoverlay hjoypad hiflag hie htimer
  · exact s.busRead_overlayOff (hb (BitVec.eq_of_toNat_eq hoverlay))
  · refine State.busRead_congr fun c => ?_
    cases c with
    | joypad => simp [Component.read, hjoypad ▸ hne]
    | bootRom | cartridge | workRam | timer | lcd | cpu => rfl
  · exact s.busRead_withRegisters s.dma rfl rfl fun h => absurd (h.trans hiflag.symm) hne
  · refine State.busRead_congr fun c => ?_
    cases c with
    | cpu => simp [Component.read, hie ▸ hne]
    | bootRom | cartridge | workRam | joypad | timer | lcd => rfl
  · obtain ⟨x, f, e, hx, hf⟩ := s.timerWrite_changes w.toNat v
    rw [e]
    exact s.busRead_withRegisters s.dma (hx _ hne hs) rfl fun h => hf (h ▸ hs)
  · obtain ⟨y, d, f, e, hy, hf⟩ := s.lcdRegWrite_changes w.toNat v
    rw [e]
    exact s.busRead_withRegisters d rfl (hy _ hne hs) fun h => hf (h ▸ hs)

/-- A store that cannot change a read does not (R61). -/
theorem State.busRead_busWrite_of_not_canChange (h : s.mem.wf = true) (hc : canChange s w a = false) :
    (s.busWrite w v).busRead a = s.busRead a := by
  obtain ⟨hne, hmirror, hside, hboot, hcart⟩ := (canChange_eq_false_iff s w a).mp hc
  obtain hw | hw | ⟨hw, hw'⟩ | hw | ⟨hw, hw'⟩ := address_cases w.toNat
  · rw [State.busWrite_cartridge v s hw]
    exact State.busRead_cartridgeWrite w v (hcart.imp_right fun h => h.resolve_left (by simp [hw]))
  · rw [State.busWrite_lcdMemory v s hw]
    rw [inLcdMemory_iff] at hw
    exact State.busRead_poke h v hne (by rw [Ne, workRamPlace_eq_some_iff]; omega)
  · obtain ⟨p, hp, e⟩ := State.busWrite_workRamPlace v s hw hw'
    rw [workRamPlace_eq_some_iff] at hp
    rw [sameWorkRam_eq_true_iff] at hmirror
    rw [e]
    exact State.busRead_poke h v (by omega) (by rw [Ne, workRamPlace_eq_some_iff]; omega)
  · rw [State.busWrite_highRam v s hw]
    rw [inHighRam_iff] at hw
    exact State.busRead_poke h v hne (by rw [Ne, workRamPlace_eq_some_iff]; omega)
  · exact State.busRead_busWrite_register v hw hw' hne hside hboot

end

/-- The kinds of storage (R66 to R69). -/
theorem isStorage_cases {n : Nat} (h : isStorage n = true) :
    inLcdMemory n = true ∨ (0xC000 ≤ n ∧ n < 0xE000) ∨ inHighRam n = true := by
  rw [inLcdMemory_iff, inHighRam_iff]
  simp only [isStorage, Bool.or_eq_true, Bool.and_eq_true, decide_eq_true_eq] at h
  omega

/-- A write to storage stores the byte and changes nothing else (R66 to R69). -/
theorem State.busWrite_storage (s : State) {a : Word} (v : Byte) (h : isStorage a.toNat = true) :
    s.busWrite a v = s.poke a.toNat v := by
  obtain ha | ⟨ha, ha'⟩ | ha := isStorage_cases h
  · exact State.busWrite_lcdMemory v s ha
  · rw [State.busWrite_workRam v s ha (by omega), if_pos ha']
  · exact State.busWrite_highRam v s ha

/-- A read of storage answers the byte (R66 to R69). -/
theorem State.busRead_storage (s : State) {a : Word} (h : isStorage a.toNat = true) :
    s.busRead a = Mem.read s.mem a.toNat := by
  obtain ha | ⟨ha, ha'⟩ | ha := isStorage_cases h
  · exact s.busRead_lcdMemory ha
  · rw [s.busRead_workRam ha (by omega), if_pos ha']
  · exact s.busRead_highRam ha

section
variable (s : State) {a : Word} (h : 0xC000 ≤ a.toNat) (h' : a.toNat < 0xDE00)
include h h'

/-- The mirror of an address whose copy lies in the echo range (R68). -/
theorem toNat_add_mirror : (a + 0x2000).toNat = a.toNat + 0x2000 := by
  rw [BitVec.toNat_add_of_lt (by simp; omega)]
  rfl

/-- The echo range reads what it mirrors (R68). -/
theorem State.busRead_mirror : s.busRead (a + 0x2000) = s.busRead a := by
  have e := toNat_add_mirror h h'
  rw [s.busRead_workRam (by omega) (by omega), s.busRead_workRam h (by omega), if_neg (by omega),
    if_pos (by omega), e, Nat.add_sub_cancel]

/-- The echo range writes what it mirrors (R68). -/
theorem State.busWrite_mirror (v : Byte) : s.busWrite (a + 0x2000) v = s.busWrite a v := by
  have e := toNat_add_mirror h h'
  rw [State.busWrite_workRam v s (by omega) (by omega), State.busWrite_workRam v s h (by omega),
    if_neg (by omega), if_pos (by omega), e, Nat.add_sub_cancel]

end

/-- Settles O39: a store of each kind shows only where `canChange` allows, and at an address of storage it is a write of
one byte of memory, at the mirror's address the same write. -/
theorem storesToMemory : Obligations.StoresToMemory := by
  unfold Obligations.StoresToMemory
  refine ⟨fun s w a v hwf hc => State.busRead_busWrite_of_not_canChange v hwf hc, fun s a v hwf hst => ?_⟩
  have reads : (s.busWrite a v).busRead a = v := by
    rw [State.busRead_storage _ hst, s.busWrite_storage v hst]
    exact Mem.read_write_same hwf a.toNat v
  exact ⟨reads, s.busWrite_storage v hst, fun h h' =>
    ⟨(State.busRead_mirror _ h h').trans reads, s.busWrite_mirror h h' v⟩⟩

end Sys2Proof.Machine
end

section
/-! PROOFS. What an instruction does outside the CPU (spec 41_loads.md R119 to R138, 20_memory.md R77): its stores, at
addresses computed from the state before it, and nothing else; so it leaves every read those stores do not reach. -/

namespace Sys2Proof.Machine

open Sys2Proof.Rules

/-! ### The addresses a shared operation stores to -/

/-- The address a write of an 8-bit operand stores to: HL for `(HL)`, none for a register (R88). -/
def R8.stores (o : R8) (s : State) : List Word :=
  match o with
  | .atHl => [s.hl]
  | _ => []

/-- The addresses of `pushWord`, in its order (R138). -/
def State.pushAddresses (s : State) : List Word := [s.sp - 1, s.sp - 2]

/-- The addresses a shared operation stores to, in its order. -/
def SharedOp.stores (op : SharedOp) (s : State) : List Word :=
  match op with
  | .storeIndirect p => [s.indAddress p]
  | .storeAbsolute n => [n]
  | .storeHighN8 n => [0xFF#8 ++ n]
  | .storeHighC => [0xFF#8 ++ s.reg .c]
  | .storeSp n => [n, n + 1]
  | .loadR8 dst _ => dst.stores s
  | .loadN8 dst _ => dst.stores s
  | .incrementR8 o => o.stores s
  | .decrementR8 o => o.stores s
  | .rotateR8 _ o => o.stores s
  | .resetR8 _ o => o.stores s
  | .setR8 _ o => o.stores s
  | .secondTable op2 =>
    match (fieldX op2).toNat with
    | 1 => []
    | _ => (r8OfField (fieldZ op2)).stores s
  | .pushR16 _ => s.pushAddresses
  | .callAbsolute _ => s.pushAddresses
  | .callIf cc _ => if cc.holds (s.reg .f) then s.pushAddresses else []
  | .restart _ => s.pushAddresses
  | _ => []

/-- A claim about every byte holds when it holds of each of the 256, so a table is gone through cell by cell. -/
theorem forall_byte_of_forall_lt {P : Byte → Prop} (h : ∀ n < 256, P (BitVec.ofNat 8 n)) (b : Byte) : P b := by
  simpa using h b.toNat b.isLt

/-- Of the instructions of the second table, the (HL) forms but BIT store to HL (R183 to R203). -/
theorem sharedOp_tableTwoInstr_stores (b1 : Byte) (s : State) :
    (sharedOp (tableTwoInstr b1)).stores s = if fieldZ b1 = 6 ∧ fieldX b1 ≠ 1 then [hlOf s] else [] := by
  revert b1
  refine forall_byte_of_forall_lt fun n hn => ?_
  interval_cases n <;> rfl

/-- An instruction word's operation stores to the addresses `storesTo` gives the word, cell by cell of the direct
table. -/
theorem sharedOp_decode3_stores (b0 b1 b2 : Byte) (s : State) :
    (sharedOp (decode3 b0 b1 b2)).stores s = storesTo b0 b1 b2 s := by
  revert b0
  refine forall_byte_of_forall_lt fun n hn => ?_
  obtain hbelow | rfl | habove := Nat.lt_trichotomy n 0xCB
  · interval_cases n <;> rfl
  · exact sharedOp_tableTwoInstr_stores b1 s
  · interval_cases n <;> rfl

/-! ### A shared operation's effect outside the CPU is its stores -/

/-- Outside the CPU, `t` is what bus writes to these addresses, in this order, make of `s`. -/
def StoresAt (as : List Word) (s t : State) : Prop :=
  ∃ values : List Byte, values.length = as.length ∧ t.devicePart = (busWrites (as.zip values) s).devicePart

/-- The high page's address from its low byte (R93). -/
theorem highPage_eq_append (n : Byte) : highPage n = 0xFF#8 ++ n := by
  have hlt : n.toNat < 2 ^ 8 := n.isLt
  have happ : (0xFF#8 ++ n).toNat = 0xFF00 + n.toNat := by
    rw [BitVec.toNat_append, ← Nat.shiftLeft_add_eq_or_of_lt hlt]
    rfl
  rw [← BitVec.toNat_inj, happ, highPage, zext16]
  bv_omega

theorem StoresAt.nothing {s t : State} (h : t.devicePart = s.devicePart) : StoresAt [] s t := ⟨[], rfl, h⟩

theorem StoresAt.byte {s t : State} {a : Word} (v : Byte) (h : t.devicePart = (s.busWrite a v).devicePart) :
    StoresAt [a] s t := ⟨[v], rfl, h⟩

/-- Updates of the CPU alone after the stores. -/
theorem StoresAt.trans {as : List Word} {s t u : State} (h : StoresAt as s t) (hu : u.devicePart = t.devicePart) :
    StoresAt as s u := by
  obtain ⟨values, hlen, ht⟩ := h
  exact ⟨values, hlen, hu.trans ht⟩

/-- Writing an 8-bit operand stores to HL for `(HL)`, and nowhere for a register (R88). -/
theorem StoresAt.writeR8 (o : R8) (v : Byte) (s : State) : StoresAt (o.stores s) s (s.writeR8 o v) := by
  cases o with
  | atHl => exact .byte v rfl
  | b | c | d | e | h | l | a => exact .nothing rfl

/-- A push stores the high byte at SP - 1, then the low byte at SP - 2 (R138). -/
theorem StoresAt.pushWord (v : Word) (s : State) : StoresAt s.pushAddresses s (s.pushWord v) := by
  refine ⟨[hi8 v, lo8 v], rfl, ?_⟩
  have high : s.sp - 2 + 1 = s.sp - 1 := by bv_omega
  rw [State.pushWord_eq, State.setSp_devicePart, high]
  rfl

@[simp] theorem State.setPc_devicePart (v : Word) (s : State) : (s.setPc v).devicePart = s.devicePart := rfl
@[simp] theorem State.spend_devicePart (n : Nat) (s : State) : (s.spend n).devicePart = s.devicePart := rfl
@[simp] theorem State.writeR16_devicePart (o : R16) (v : Word) (s : State) :
    (s.writeR16 o v).devicePart = s.devicePart := by
  cases o <;> rfl

theorem incrementR8_storesAt (o : R8) (s : State) : StoresAt (o.stores s) s (incrementR8 o s) :=
  (StoresAt.writeR8 o (aluAdd (s.readR8 o) 1 false).value s).trans (by simp [incrementR8])

theorem decrementR8_storesAt (o : R8) (s : State) : StoresAt (o.stores s) s (decrementR8 o s) :=
  (StoresAt.writeR8 o (aluSub (s.readR8 o) 1 false).value s).trans (by simp [decrementR8])

theorem rotateR8_storesAt (k : RotOp) (o : R8) (s : State) : StoresAt (o.stores s) s (rotateR8 k o s) :=
  (StoresAt.writeR8 o (k.result (s.readR8 o) s.carry).value s).trans (by simp [rotateR8])

theorem resetR8_storesAt (b : BitVec 3) (o : R8) (s : State) : StoresAt (o.stores s) s (resetR8 b o s) :=
  (StoresAt.writeR8 o _ s).trans (State.retire_devicePart _ _ _)

theorem setR8_storesAt (b : BitVec 3) (o : R8) (s : State) : StoresAt (o.stores s) s (setR8 b o s) :=
  (StoresAt.writeR8 o _ s).trans (State.retire_devicePart _ _ _)

@[simp] theorem testR8_devicePart (b : BitVec 3) (o : R8) (s : State) : (testR8 b o s).devicePart = s.devicePart := by
  simp [testR8]

theorem secondTable_storesAt (op2 : Byte) (s : State) :
    StoresAt ((SharedOp.secondTable op2).stores s) s (secondTable op2 s) := by
  unfold secondTable SharedOp.stores
  dsimp only
  match (fieldX op2).toNat with
  | 0 => exact rotateR8_storesAt _ _ s
  | 1 => exact .nothing (testR8_devicePart _ _ s)
  | 2 => exact resetR8_storesAt _ _ s
  | _ + 3 => exact setR8_storesAt _ _ s

theorem callIf_storesAt (cc : Cond) (n : Word) (s : State) :
    StoresAt ((SharedOp.callIf cc n).stores s) s (callIf cc n s) := by
  unfold callIf SharedOp.stores
  dsimp only
  split
  · exact (StoresAt.pushWord _ s).trans (State.jump_devicePart _ _ _)
  · exact .nothing (State.retire_devicePart _ _ _)

/-- Every shared operation stores to its addresses and is an update of the CPU alone beside that: the ones that store
are named, the conditional ones and the rest leave the devices as they are. -/
theorem SharedOp.run_storesAt (op : SharedOp) (s : State) : StoresAt (op.stores s) s (op.run s) := by
  cases op with
  | storeIndirect p => exact .byte _ ((State.retire_devicePart _ _ _).trans (Reaches.indUpdate p _))
  | storeAbsolute n => exact .byte _ (State.retire_devicePart _ _ _)
  | storeHighN8 n => exact .byte _ (by rw [← highPage_eq_append]; exact State.retire_devicePart _ _ _)
  | storeHighC => exact .byte _ (by rw [← highPage_eq_append]; exact State.retire_devicePart _ _ _)
  | storeSp n => exact ⟨[lo8 s.sp, hi8 s.sp], rfl, State.retire_devicePart _ _ _⟩
  | loadR8 dst src => exact (StoresAt.writeR8 dst _ s).trans (State.retire_devicePart _ _ _)
  | loadN8 dst n => exact (StoresAt.writeR8 dst _ s).trans (State.retire_devicePart _ _ _)
  | incrementR8 o => exact incrementR8_storesAt o s
  | decrementR8 o => exact decrementR8_storesAt o s
  | rotateR8 k o => exact rotateR8_storesAt k o s
  | resetR8 b o => exact resetR8_storesAt b o s
  | setR8 b o => exact setR8_storesAt b o s
  | secondTable op2 => exact secondTable_storesAt op2 s
  | pushR16 o => exact (StoresAt.pushWord _ s).trans (State.retire_devicePart _ _ _)
  | callAbsolute n => exact (StoresAt.pushWord _ s).trans (State.jump_devicePart _ _ _)
  | callIf cc n => exact callIf_storesAt cc n s
  | restart n => exact (StoresAt.pushWord _ s).trans (State.jump_devicePart _ _ _)
  | jumpAbsoluteIf | jumpRelativeIf | returnIf | enableInterrupts =>
    refine .nothing ?_
    simp [SharedOp.run, Machine.jumpAbsoluteIf, Machine.jumpRelativeIf, Machine.returnIf, Machine.enableInterrupts,
      apply_ite State.devicePart]
  | aluR8 | aluN8 => exact .nothing ((State.retire_devicePart _ _ _).trans (State.aluFinish_devicePart _ _ _))
  | loadIndirect | popR16 =>
    refine .nothing ?_
    simp [SharedOp.run, Machine.loadIndirect, Machine.popR16, Reaches.indUpdate, Reaches.writeR16Stk]
  | loadR16 | loadAbsolute | loadHighN8 | loadHighC | loadSpHl =>
    refine .nothing ?_
    simp [SharedOp.run, Machine.loadR16, Machine.loadAbsolute, Machine.loadHighN8, Machine.loadHighC,
      Machine.loadSpHl]
  | incrementR16 | decrementR16 | addHl | addSp | loadHlSp =>
    refine .nothing ?_
    simp [SharedOp.run, Machine.incrementR16, Machine.decrementR16, Machine.addHl, Machine.addSp, Machine.loadHlSp]
  | rotateA | testR8 | decimalAdjust | complementA | setCarry | complementCarry =>
    refine .nothing ?_
    simp [SharedOp.run, Machine.rotateA, Machine.decimalAdjust, Machine.complementA, Machine.setCarry,
      Machine.complementCarry]
  | jumpAbsolute | jumpHl | jumpRelative | returnCpu | returnInterrupt =>
    refine .nothing ?_
    simp [SharedOp.run, Machine.jumpAbsolute, Machine.jumpHl, Machine.jumpRelative, Machine.returnCpu,
      Machine.returnInterrupt, State.returnFromInterrupt]
  | noOperation | disableInterrupts | haltCpu | stopCpu | illegalByte =>
    refine .nothing ?_
    simp [SharedOp.run, Machine.noOperation, Machine.disableInterrupts, Machine.haltCpu, Machine.stopCpu,
      Machine.illegalByte]

/-- The devices' frame of an instruction word: bus writes at the addresses `storesTo` names, and nothing else. -/
theorem exec_decode3_storesAt {b0 b1 b2 : Byte} {s t : State} (h : exec (decode3 b0 b1 b2) s = .next t) :
    StoresAt (storesTo b0 b1 b2 s) s t := by
  rw [exec_sharedOp, Host.Outcome.next.injEq] at h
  rw [← h, ← sharedOp_decode3_stores]
  exact SharedOp.run_storesAt _ s

/-- Settles O35: every word's operation stores to the word's addresses and is an update of the CPU alone beside that. -/
theorem onlyStoresChangeDevices : Obligations.OnlyStoresChangeDevices := by
  unfold Obligations.OnlyStoresChangeDevices
  intro b0 b1 b2 s t h
  obtain ⟨values, hlen, hpart⟩ := exec_decode3_storesAt h
  refine ⟨values, hlen, ?_⟩
  simp only [State.devicePart, DevicePart.mk.injEq] at hpart
  obtain ⟨hie, hif, htimer, hlcd, hdma, hboot, hcart, hjoy, hmem, -⟩ := hpart
  exact ⟨hie, hif, htimer, hlcd, hdma, hboot, hcart, hjoy, hmem⟩

/-! ### A sequence of stores disturbs no other read -/

/-- A bus write does not exchange the cartridge for another kind. -/
theorem State.busWrite_cartridge_eq_romOnly_iff (u : Word) (v : Byte) (s : State) :
    (s.busWrite u v).cartridge = .romOnly ↔ s.cartridge = .romOnly := by
  obtain hu | hu | ⟨hu, hu'⟩ | hu | ⟨hu, hu'⟩ := address_cases u.toNat
  · rw [State.busWrite_cartridge v s hu, State.cartridgeWrite]
    cases hc : s.cartridge <;> simp [hc]
  · rw [State.busWrite_lcdMemory v s hu, State.poke]
  · rw [State.busWrite_workRam v s hu hu', State.poke]
  · rw [State.busWrite_highRam v s hu, State.poke]
  · rw [State.busWrite_register v s hu hu']
    obtain ⟨x, f, htimer, -⟩ := s.timerWrite_changes u.toNat v
    obtain ⟨y, d, g, hlcd, -⟩ := s.lcdRegWrite_changes u.toNat v
    rw [htimer, hlcd]
    split_ifs <;> rfl

/-- What a later store can change is known before the ones in front of it. -/
theorem canChange_busWrite (s : State) (u : Word) (v : Byte) (w a : Word) :
    canChange (s.busWrite u v) w a = canChange s w a := by
  simp only [canChange, ne_eq, State.busWrite_cartridge_eq_romOnly_iff]

/-- Stores that cannot change a read do not, one after another. -/
theorem busWrites_busRead {ws : List (Word × Byte)} {s : State} {a : Word} (h : s.mem.wf = true)
    (hc : ∀ w ∈ ws, canChange s w.1 a = false) : (busWrites ws s).busRead a = s.busRead a := by
  induction ws generalizing s with
  | nil => rfl
  | cons w ws ih =>
    obtain ⟨hw, hws⟩ := List.forall_mem_cons.mp hc
    calc (busWrites ws (s.busWrite w.1 w.2)).busRead a
        = (s.busWrite w.1 w.2).busRead a :=
          ih (State.busWrite_wf w.1 w.2 h) fun x hx => (canChange_busWrite s w.1 w.2 x.1 a).trans (hws x hx)
      _ = s.busRead a := State.busRead_busWrite_of_not_canChange w.2 h hw

/-- Settles O36: a word's effect on reads is that of its stores, and each leaves the reads it cannot change. -/
theorem memoryFrame : Obligations.MemoryFrame := by
  unfold Obligations.MemoryFrame
  intro b0 b1 b2 s t a hwf he hc
  obtain ⟨values, -, hpart⟩ := exec_decode3_storesAt he
  rw [State.busRead_of_devicePart hpart]
  exact busWrites_busRead hwf fun w hw => hc w.1 (List.of_mem_zip hw).1

end Sys2Proof.Machine
end

section
/-! PROOFS. Encoding and decoding (spec 30_encoding.md R84 to R98): the direct table cell by cell, and how each kind of
cell reads and writes its bytes. -/

namespace Sys2Proof.Machine

/-! ### A word and its two bytes (R10) -/

@[simp] theorem hi8_make16 (hi lo : Byte) : hi8 (make16 hi lo) = hi := BitVec.extractLsb'_append_eq_left

@[simp] theorem lo8_make16 (hi lo : Byte) : lo8 (make16 hi lo) = lo := BitVec.extractLsb'_append_eq_right

@[simp] theorem make16_hi8_lo8 (n : Word) : make16 (hi8 n) (lo8 n) = n :=
  BitVec.extractLsb'_append_extractLsb'_eq_extractLsb' rfl |>.trans BitVec.extractLsb'_eq_self

end Sys2Proof.Machine

namespace Sys2Proof

open Machine

/-! ### The cells of the direct table -/

/-- A claim about every byte of the direct table, from the cells before and after 0xCB, which are gone through one by
one, and the cell of 0xCB itself, which stands for the whole second table (R84). -/
theorem forall_byte_of_cells {P : Byte → Prop} (hbelow : ∀ n < 0xCB, P (BitVec.ofNat 8 n)) (hcb : P 0xCB)
    (habove : ∀ n, 0xCB < n → n < 256 → P (BitVec.ofNat 8 n)) (b : Byte) : P b := by
  refine forall_byte_of_forall_lt (fun n hn => ?_) b
  obtain hlt | rfl | hgt := Nat.lt_trichotomy n 0xCB
  · exact hbelow n hlt
  · exact hcb
  · exact habove n hgt hn

/-- The instruction of a table cell with its operands: `b1` the byte after the opcode, `n` the word after it. -/
def Entry.instr (e : Entry) (b1 : Byte) (n : Word) : Instr :=
  match e with
  | .bare i => i
  | .unread i => i
  | .imm8 mk => mk b1
  | .imm16 mk => mk n
  | .toTableTwo => tableTwoInstr b1

/-- The bytes of a table cell's instruction with its operands, the opcode `b0` first (R93, R97). -/
def Entry.bytes (e : Entry) (b0 b1 : Byte) (n : Word) : List Byte :=
  match e with
  | .bare _ => [b0]
  | .unread _ => [b0, 0]
  | .imm8 _ => [b0, b1]
  | .imm16 _ => [b0, lo8 n, hi8 n]
  | .toTableTwo => [b0, b1]

/-- Whether a cell's second byte is not read (R97). -/
def Entry.isUnread (e : Entry) : Bool :=
  match e with
  | .unread _ => true
  | _ => false

theorem decode3_eq_instr (b0 b1 b2 : Byte) : decode3 b0 b1 b2 = (directEntry b0).instr b1 (make16 b2 b1) := by
  unfold decode3 Entry.instr
  cases directEntry b0 <;> rfl

theorem Entry.headD_bytes (e : Entry) (b0 b1 : Byte) (n : Word) : (e.bytes b0 b1 n).headD 0 = b0 := by
  cases e <;> rfl

theorem length_directEntry_bytes (b0 b1 : Byte) (n : Word) :
    ((directEntry b0).bytes b0 b1 n).length = opcodeLength b0 := by
  unfold opcodeLength Entry.bytes
  cases directEntry b0 <;> rfl

theorem tableTwoInstr_wellFormed (b1 : Byte) : (tableTwoInstr b1).wellFormed = true := by
  revert b1
  refine forall_byte_of_forall_lt fun n hn => ?_
  interval_cases n <;> rfl

theorem encode_tableTwoInstr (b1 : Byte) : encode (tableTwoInstr b1) = [0xCB, b1] := by
  revert b1
  refine forall_byte_of_forall_lt fun n hn => ?_
  interval_cases n <;> rfl

theorem directEntry_instr_wellFormed (b0 b1 : Byte) (n : Word) : ((directEntry b0).instr b1 n).wellFormed = true := by
  revert b0
  refine forall_byte_of_cells (fun k hk => ?_) (tableTwoInstr_wellFormed b1) fun k hk hk' => ?_ <;>
    interval_cases k <;> rfl

theorem encode_directEntry_instr (b0 b1 : Byte) (n : Word) :
    encode ((directEntry b0).instr b1 n) = (directEntry b0).bytes b0 b1 n := by
  revert b0
  refine forall_byte_of_cells (fun k hk => ?_) (encode_tableTwoInstr b1) fun k hk hk' => ?_ <;>
    interval_cases k <;> rfl

/-- STOP's is the only cell whose second byte is not read (R97). -/
theorem directEntry_isUnread (b0 : Byte) : (directEntry b0).isUnread = (b0 == 0x10) := by
  revert b0
  refine forall_byte_of_forall_lt fun n hn => ?_
  interval_cases n <;> rfl

/-! ### Decoding and encoding a word -/

/-- The decoder of lists reads the first three bytes, where there are three (R86). -/
theorem decode_cons_cons_cons (b0 b1 b2 : Byte) (rest : List Byte) :
    decode (b0 :: b1 :: b2 :: rest) = .ok (decode3 b0 b1 b2) := by
  unfold decode decode3
  dsimp only
  cases directEntry b0 <;> rfl

/-- A decoded instruction's encoding is the bytes it was read from, but for STOP's second byte (R97, R98). -/
theorem encode_decode3 (b0 b1 b2 : Byte) :
    encode (decode3 b0 b1 b2) = if b0 = 0x10 then [0x10, 0x00] else [b0, b1, b2].take (opcodeLength b0) := by
  have hunread := directEntry_isUnread b0
  rw [decode3_eq_instr, encode_directEntry_instr]
  unfold opcodeLength
  cases he : directEntry b0 with
  | unread i =>
    have hb : b0 = 0x10 := by simpa [he, Entry.isUnread] using hunread
    rw [if_pos hb, hb]
    rfl
  | bare | imm8 | imm16 | toTableTwo =>
    have hb : b0 ≠ 0x10 := by simpa [he, Entry.isUnread] using hunread
    rw [if_neg hb]
    simp [Entry.bytes]

/-- Settles O9: each cell's instruction is well formed and is encoded as the cell's bytes, which are the bytes read but
for STOP's second. -/
theorem encodeOfDecode : Obligations.EncodeOfDecode := by
  unfold Obligations.EncodeOfDecode
  intro b0 b1 b2
  refine ⟨?_, decode_cons_cons_cons b0 b1 b2 [], encode_decode3 b0 b1 b2⟩
  rw [decode3_eq_instr]
  exact directEntry_instr_wellFormed b0 b1 _

/-- Every constructor's encoding starts with the opcode whose cell builds it: the cell is looked up by computation, and
the word operands are the two bytes put together again (R93). -/
theorem decode_encode_append {i : Instr} (h : i.wellFormed = true) (after : List Byte) :
    decode (encode i ++ after) = .ok i := by
  cases i with
  | illegal op =>
    have hop : op ∈ illegalBytes := List.contains_iff_mem.mp h
    simp only [illegalBytes, List.mem_cons, List.not_mem_nil, or_false] at hop
    obtain rfl | rfl | rfl | rfl | rfl | rfl | rfl | rfl | rfl | rfl | rfl := hop <;> rfl
  | prefixCb op2 => cases h
  | ldBcN16 n | ldDeN16 n | ldHlN16 n | ldSpN16 n | ldAtN16Sp n | ldAtN16A n | ldAAtN16 n | jpN16 n | jpNzN16 n
  | jpZN16 n | jpNcN16 n | jpCN16 n | callN16 n | callNzN16 n | callZN16 n | callNcN16 n | callCN16 n =>
    refine congrArg Except.ok ?_
    rw [make16_hi8_lo8]
  | _ => rfl

/-- Every well-formed instruction is decoded from some three bytes: its encoding, padded. -/
theorem exists_decode3_eq {i : Instr} (h : i.wellFormed = true) : ∃ b0 b1 b2, decode3 b0 b1 b2 = i := by
  have hdec := decode_encode_append h [0, 0, 0]
  match hb : encode i ++ [0, 0, 0] with
  | b0 :: b1 :: b2 :: rest =>
    rw [hb, decode_cons_cons_cons, Except.ok.injEq] at hdec
    exact ⟨b0, b1, b2, hdec⟩
  | [] | [_] | [_, _] =>
    have hlen := congrArg List.length hb
    simp at hlen

theorem length_encode_decode3 (b0 b1 b2 : Byte) :
    (encode (decode3 b0 b1 b2)).length = opcodeLength ((encode (decode3 b0 b1 b2)).headD 0) := by
  rw [decode3_eq_instr, encode_directEntry_instr, Entry.headD_bytes, length_directEntry_bytes]

/-- Settles O8: the decoder looks up each constructor's opcode, and since every well-formed instruction is one that the
tables give, its length is that of its cell's bytes. -/
theorem decodeOfEncode : Obligations.DecodeOfEncode := by
  unfold Obligations.DecodeOfEncode
  intro i after h
  obtain ⟨b0, b1, b2, rfl⟩ := exists_decode3_eq h
  exact ⟨decode_encode_append h after, length_encode_decode3 b0 b1 b2⟩

/-- Settles O7: each word's cell is looked up. -/
theorem tableWordsDecode : Obligations.TableWordsDecode := by
  unfold Obligations.TableWordsDecode
  and_intros <;> rfl

/-! ### The second table (R84, R92) -/

/-- An instruction of the second table does what the fields of its byte select (R92). -/
theorem exec_tableTwoInstr (op2 : Byte) (s : State) : exec (tableTwoInstr op2) s = .next (secondTable op2 s) := by
  revert op2
  refine forall_byte_of_forall_lt fun n hn => ?_
  interval_cases n <;> rfl

theorem exec_prefixCb (op2 : Byte) (s : State) : exec (.prefixCb op2) s = .next (secondTable op2 s) := rfl

/-- Settles O10: `prefixCb` and the second table's own instruction both do what the second byte's fields select. -/
theorem prefixSelectsTheSecondTable : Obligations.PrefixSelectsTheSecondTable := by
  unfold Obligations.PrefixSelectsTheSecondTable
  intro b1 b2 s
  exact ⟨rfl, (exec_prefixCb b1 s).trans (exec_tableTwoInstr b1 s).symm, _, exec_prefixCb b1 s⟩

end Sys2Proof
end

section
/-! PROOFS. Where PC goes and what an instruction costs (spec 30_encoding.md R85, R94, R95, R98, 60_exceptions.md R230
to R232): how each shared operation ends, and that a word's operation ends as the word's table entry says. -/

namespace Sys2Proof.Machine

open Sys2Proof.Rules

/-! ### Operand writes move neither PC nor the cycle -/

@[simp] theorem State.writeR8_pc (o : R8) (v : Byte) (s : State) : (s.writeR8 o v).pc = s.pc := by
  cases o <;> simp [State.writeR8]

@[simp] theorem State.writeR8_cycle (o : R8) (v : Byte) (s : State) : (s.writeR8 o v).cycle = s.cycle := by
  cases o <;> simp [State.writeR8]

@[simp] theorem State.writeR16_pc (o : R16) (v : Word) (s : State) : (s.writeR16 o v).pc = s.pc := by
  cases o <;> rfl

@[simp] theorem State.writeR16_cycle (o : R16) (v : Word) (s : State) : (s.writeR16 o v).cycle = s.cycle := by
  cases o <;> rfl

@[simp] theorem State.writeR16Stk_pc (o : R16Stk) (v : Word) (s : State) : (s.writeR16Stk o v).pc = s.pc := by
  cases o <;> rfl

@[simp] theorem State.writeR16Stk_cycle (o : R16Stk) (v : Word) (s : State) :
    (s.writeR16Stk o v).cycle = s.cycle := by
  cases o <;> rfl

@[simp] theorem State.indUpdate_pc (p : IndAddr) (s : State) : (s.indUpdate p).pc = s.pc := by
  cases p <;> rfl

@[simp] theorem State.indUpdate_cycle (p : IndAddr) (s : State) : (s.indUpdate p).cycle = s.cycle := by
  cases p <;> rfl

@[simp] theorem State.setFlags_pc {w : Nat} (sel : Selector) (r : AluResult w) (s : State) :
    (s.setFlags sel r).pc = s.pc := rfl

@[simp] theorem State.setFlags_cycle {w : Nat} (sel : Selector) (r : AluResult w) (s : State) :
    (s.setFlags sel r).cycle = s.cycle := rfl

@[simp] theorem State.aluFinish_pc (k : AluOp) (r : AluResult 8) (s : State) : (s.aluFinish k r).pc = s.pc := by
  cases k <;> rfl

@[simp] theorem State.aluFinish_cycle (k : AluOp) (r : AluResult 8) (s : State) :
    (s.aluFinish k r).cycle = s.cycle := by
  cases k <;> rfl

@[simp] theorem State.busWrite16_pc (a v : Word) (s : State) : (s.busWrite16 a v).pc = s.pc := by
  simp [State.busWrite16]

@[simp] theorem State.busWrite16_cycle (a v : Word) (s : State) : (s.busWrite16 a v).cycle = s.cycle := by
  simp [State.busWrite16]

@[simp] theorem State.pushWord_pc (v : Word) (s : State) : (s.pushWord v).pc = s.pc := by
  simp [State.pushWord]

@[simp] theorem State.pushWord_cycle (v : Word) (s : State) : (s.pushWord v).cycle = s.cycle := by
  simp [State.pushWord]

/-! ### How a shared operation ends -/

/-- How many bytes a shared operation moves PC past (R231); none where it sets PC or raises a fault. -/
def SharedOp.advance (op : SharedOp) (s : State) : Option Nat :=
  match op with
  | .loadN8 _ _ | .aluN8 _ _ | .loadHighN8 _ | .storeHighN8 _ | .addSp _ | .loadHlSp _ => some 2
  | .secondTable _ | .rotateR8 _ _ | .testR8 _ _ | .resetR8 _ _ | .setR8 _ _ => some 2
  | .loadR16 _ _ | .storeSp _ | .loadAbsolute _ | .storeAbsolute _ => some 3
  | .jumpAbsoluteIf cc _ => if cc.holds (s.reg .f) then none else some 3
  | .jumpRelativeIf cc _ => if cc.holds (s.reg .f) then none else some 2
  | .callIf cc _ => if cc.holds (s.reg .f) then none else some 3
  | .returnIf cc => if cc.holds (s.reg .f) then none else some 1
  | .jumpAbsolute _ | .jumpHl | .jumpRelative _ | .callAbsolute _ | .returnCpu | .returnInterrupt | .restart _ => none
  | .stopCpu | .illegalByte _ => none
  | _ => some 1

/-- How many cycles a shared operation charges (R232); none where it raises a fault. -/
def SharedOp.cycles (op : SharedOp) (s : State) : Option Nat :=
  match op with
  | .loadR8 dst src => some (max (dst.cost 1 2) (src.cost 1 2))
  | .loadN8 dst _ => some (dst.cost 2 3)
  | .aluR8 _ o => some (o.cost 1 2)
  | .incrementR8 o | .decrementR8 o => some (o.cost 1 3)
  | .rotateR8 _ o | .resetR8 _ o | .setR8 _ o => some (o.cost 2 4)
  | .testR8 _ o => some (o.cost 2 3)
  | .secondTable op2 =>
    match (fieldX op2).toNat with
    | 1 => some ((r8OfField (fieldZ op2)).cost 2 3)
    | _ => some ((r8OfField (fieldZ op2)).cost 2 4)
  | .loadIndirect _ | .storeIndirect _ | .loadHighC | .storeHighC | .loadSpHl => some 2
  | .incrementR16 _ | .decrementR16 _ | .addHl _ | .aluN8 _ _ => some 2
  | .loadR16 _ _ | .loadHighN8 _ | .storeHighN8 _ | .loadHlSp _ | .popR16 _ | .jumpRelative _ => some 3
  | .loadAbsolute _ | .storeAbsolute _ | .addSp _ | .pushR16 _ => some 4
  | .jumpAbsolute _ | .returnCpu | .returnInterrupt | .restart _ => some 4
  | .storeSp _ => some 5
  | .callAbsolute _ => some 6
  | .jumpAbsoluteIf cc _ => some (if cc.holds (s.reg .f) then 4 else 3)
  | .jumpRelativeIf cc _ => some (if cc.holds (s.reg .f) then 3 else 2)
  | .callIf cc _ => some (if cc.holds (s.reg .f) then 6 else 3)
  | .returnIf cc => some (if cc.holds (s.reg .f) then 5 else 2)
  | .stopCpu | .illegalByte _ => none
  | _ => some 1

/-- From `s` to `t` PC moves past the bytes and the CPU next acts after the cycles, where they are given. -/
structure EndsAs (advance cycles : Option Nat) (s t : State) : Prop where
  pc : ∀ n ∈ advance, t.pc = s.pc + BitVec.ofNat 16 n
  nextActive : ∀ n ∈ cycles, t.nextActive = s.cycle + n

theorem EndsAs.retire {s t : State} {length cycles : Nat} (hpc : t.pc = s.pc) (hcycle : t.cycle = s.cycle) :
    EndsAs (some length) (some cycles) s (t.retire length cycles) :=
  ⟨by simp [hpc], by simp [hcycle]⟩

theorem EndsAs.jump {s t : State} {target : Word} {cycles : Nat} (hcycle : t.cycle = s.cycle) :
    EndsAs none (some cycles) s (t.jump target cycles) :=
  ⟨by simp, by simp [hcycle]⟩

theorem EndsAs.fault (s t : State) : EndsAs none none s t := ⟨by simp, by simp⟩

/-- A conditional operation sets PC where its condition holds and only moves past its bytes where not (R231, R232). -/
theorem EndsAs.ite {s t u : State} {length extra cycles : Nat} {c : Bool} (htaken : EndsAs none (some extra) s t)
    (hnot : EndsAs (some length) (some cycles) s u) :
    EndsAs (if c then none else some length) (some (if c then extra else cycles)) s (if c then t else u) := by
  cases c
  · exact hnot
  · exact htaken

theorem enableInterrupts_endsAs (s : State) : EndsAs (some 1) (some 1) s (enableInterrupts s) := by
  unfold enableInterrupts
  split <;> exact ⟨by simp, by simp⟩

theorem secondTable_endsAs (op2 : Byte) (s : State) :
    EndsAs (some 2) ((SharedOp.secondTable op2).cycles s) s (secondTable op2 s) := by
  unfold secondTable SharedOp.cycles
  dsimp only
  match (fieldX op2).toNat with
  | 0 | 1 | 2 | _ + 3 => exact .retire (by simp) (by simp)

/-- How every shared operation ends. -/
theorem SharedOp.run_endsAs (op : SharedOp) (s : State) : EndsAs (op.advance s) (op.cycles s) s (op.run s) := by
  cases op with
  | loadR8 | loadN8 | loadIndirect | storeIndirect | loadAbsolute | storeAbsolute | loadHighN8 | storeHighN8
  | loadHighC | storeHighC | loadR16 | storeSp | loadSpHl | pushR16 | popR16 | aluR8 | aluN8 | incrementR8 | decrementR8
  | decimalAdjust | complementA | setCarry | complementCarry | addHl | incrementR16 | decrementR16 | addSp | loadHlSp
  | rotateA | rotateR8 | testR8 | resetR8 | setR8 | noOperation | disableInterrupts | haltCpu =>
    exact .retire (by simp) (by simp)
  | jumpAbsolute | jumpHl | jumpRelative | callAbsolute | returnCpu | returnInterrupt | restart =>
    exact .jump (by simp)
  | jumpAbsoluteIf | jumpRelativeIf | callIf | returnIf => exact .ite (.jump (by simp)) (.retire rfl rfl)
  | secondTable op2 => exact secondTable_endsAs op2 s
  | enableInterrupts => exact enableInterrupts_endsAs s
  | stopCpu | illegalByte => exact .fault _ _

/-! ### A word's operation ends as its table entry says -/

/-- Whether a byte's instruction records a fault: STOP and the bytes without an instruction (R219, R220). -/
def recordsFault (b0 : Byte) : Bool := b0 == 0x10 || illegalBytes.contains b0

theorem recordsFault_eq_false {b0 : Byte} (hstop : b0 ≠ 0x10) (hlegal : illegalBytes.contains b0 = false) :
    recordsFault b0 = false := by
  rw [recordsFault, hlegal, Bool.or_false, beq_eq_false_iff_ne]
  exact hstop

theorem sharedOp_tableTwoInstr_advance (b1 : Byte) (s : State) : (sharedOp (tableTwoInstr b1)).advance s = some 2 := by
  revert b1
  refine forall_byte_of_forall_lt fun n hn => ?_
  interval_cases n <;> rfl

theorem sharedOp_tableTwoInstr_cycles (b1 : Byte) (s : State) :
    (sharedOp (tableTwoInstr b1)).cycles s = some ((opcodeCost 0xCB b1).1 + (opcodeCost 0xCB b1).2) := by
  revert b1
  refine forall_byte_of_forall_lt fun n hn => ?_
  interval_cases n <;> rfl

theorem sharedOp_decode3_advance (b0 b1 b2 : Byte) (s : State) :
    (sharedOp (decode3 b0 b1 b2)).advance s =
      if recordsFault b0 || pcWriters.contains b0 && taken s b0 then none else some (opcodeLength b0) := by
  revert b0
  refine forall_byte_of_cells (fun k hk => ?_) (sharedOp_tableTwoInstr_advance b1 s) fun k hk hk' => ?_ <;>
    interval_cases k <;> rfl

theorem sharedOp_decode3_cycles (b0 b1 b2 : Byte) (s : State) :
    (sharedOp (decode3 b0 b1 b2)).cycles s =
      if recordsFault b0 then none
      else some (if taken s b0 then (opcodeCost b0 b1).1 + (opcodeCost b0 b1).2 else (opcodeCost b0 b1).1) := by
  revert b0
  refine forall_byte_of_cells (fun k hk => ?_) (sharedOp_tableTwoInstr_cycles b1 s) fun k hk hk' => ?_ <;>
    interval_cases k <;> rfl

/-- Settles O37: a word's operation moves PC past the bytes and charges the cycles of the word's table entry. -/
theorem pcAndCyclesOfEveryInstruction : Obligations.PcAndCyclesOfEveryInstruction := by
  unfold Obligations.PcAndCyclesOfEveryInstruction
  refine ⟨fun b0 b1 b2 s hstop hlegal hpc => ⟨_, exec_sharedOp _ s, (SharedOp.run_endsAs _ s).pc _ ?_⟩,
    fun b0 b1 b2 s hstop hlegal => ⟨_, exec_sharedOp _ s, (SharedOp.run_endsAs _ s).nextActive _ ?_⟩⟩
  · rw [sharedOp_decode3_advance, recordsFault_eq_false hstop hlegal]
    obtain hwriter | htaken := hpc
    · simp [hwriter]
    · simp [htaken]
  · rw [sharedOp_decode3_cycles, recordsFault_eq_false hstop hlegal]
    rfl

end Sys2Proof.Machine
end

section
/-! PROOFS. What the proofs about the ALU and its instructions share: a truth value as a number, one bit of a byte (spec
00_scope.md R11), and the end of an instruction in the words of the statements (60_exceptions.md R230 to R232). -/

namespace Sys2Proof.Machine

open Sys2Proof.Rules

/-! ### Truth values and bits -/

theorem toNat_decide_eq_ite (p : Prop) [Decidable p] : (decide p).toNat = if p then 1 else 0 := Bool.cond_decide p 1 0

theorem decide_eq_of_iff_toNat {p : Prop} [Decidable p] {b : Bool} (h : p ↔ b.toNat = 1) : decide p = b := by
  rw [Bool.eq_iff_iff, decide_eq_true_iff, h, Bool.toNat_eq_one]

theorem testBit_eq_of_div_mod {n i : Nat} {b : Bool} (h : n / 2 ^ i % 2 = b.toNat) : n.testBit i = b := by
  rw [Nat.testBit_eq_decide_div_mod_eq]
  exact decide_eq_of_iff_toNat (h ▸ Iff.rfl)

theorem getLsbD_bitAt {i : Nat} (hi : i < 8) (b : Bool) (j : Nat) :
    (bitAt i b).getLsbD j = (decide (i = j) && b) := by
  cases b with
  | false => simp [bitAt]
  | true => rw [bitAt, if_pos rfl, ← BitVec.twoPow_eq, BitVec.getLsbD_twoPow, decide_eq_true hi, Bool.true_and,
      Bool.and_true]

/-! ### The end of an instruction -/

theorem State.promote_eq (s : State) :
    s.promote =
      { s with ime := s.ime || (s.eiDelay && s.imePending), imePending := s.imePending && !s.eiDelay } := by
  rw [← State.promote_ime, ← State.promote_imePending]
  unfold State.promote
  split <;> rfl

theorem State.retire_eq_finish (length cycles : Nat) (s : State) :
    s.retire length cycles = finish length cycles s := State.promote_eq _

end Sys2Proof.Machine
end

section
/-! PROOFS. The ALU's sums (spec 40_alu.md R100 to R104): the flags as carries of bit places, and the decimal
adjustment as addition digit by digit. -/

namespace Sys2Proof.Machine

open Sys2Proof.Rules

/-! ### Values of the sums -/

theorem toNat_aluAdd_value (l r : Byte) (c : Bool) :
    (aluAdd l r c).value.toNat = (l.toNat + r.toNat + c.toNat) % 256 := BitVec.toNat_ofNat _ _

theorem toNat_aluSub_value (l r : Byte) (c : Bool) :
    ((aluSub l r c).value.toNat : Int) = ((l.toNat : Int) - r.toNat - c.toNat) % 256 := by
  simp only [aluSub, BitVec.toNat_ofInt]
  omega

theorem add16H_h (l r : Word) :
    (add16H l r).h = decide (l.toNat / 256 % 16 + r.toNat / 256 % 16 +
      (if l.toNat % 256 + r.toNat % 256 > 255 then 1 else 0) > 15) := by
  simp only [add16H, toNat_decide_eq_ite]

theorem add16H_c (l r : Word) :
    (add16H l r).c = decide (l.toNat / 256 + r.toNat / 256 +
      (if l.toNat % 256 + r.toNat % 256 > 255 then 1 else 0) > 255) := by
  simp only [add16H, toNat_decide_eq_ite]

/-- Settles O11: the values reduced modulo the width, the flags as the definitions state them. -/
theorem additionFormulas : Obligations.AdditionFormulas := by
  unfold Obligations.AdditionFormulas
  exact ⟨fun l r c => ⟨toNat_aluAdd_value l r c, rfl, rfl, rfl, rfl, toNat_aluSub_value l r c, rfl, rfl, rfl, rfl⟩,
    fun l r => ⟨BitVec.toNat_add l r, rfl, rfl, rfl, rfl, BitVec.toNat_add l r, rfl, rfl, add16H_h l r, add16H_c l r⟩⟩

/-! ### Carries as bits -/

/-- A carry into a bit place is the exclusive or of the operands' and the sum's bit there. -/
theorem getLsbD_xor_xor_adc {w i : Nat} (hi : i < w) (x y : BitVec w) (c : Bool) :
    (x ^^^ y ^^^ (x + y + (BitVec.ofBool c).setWidth w)).getLsbD i = BitVec.carry i x y c := by
  rw [BitVec.getLsbD_xor, BitVec.getLsbD_xor, BitVec.getLsbD_add_add_bool hi]
  cases x.getLsbD i <;> cases y.getLsbD i <;> simp

theorem getLsbD_xor_xor_add {w i : Nat} (hi : i < w) (x y : BitVec w) :
    (x ^^^ y ^^^ (x + y)).getLsbD i = BitVec.carry i x y false := by
  simpa using getLsbD_xor_xor_adc hi x y false

theorem aluAdd_value (l r : Byte) (c : Bool) : (aluAdd l r c).value = l + r + (BitVec.ofBool c).setWidth 8 := by
  apply BitVec.eq_of_toNat_eq
  simp [toNat_aluAdd_value, BitVec.toNat_ofBool]

/-- The difference is what gives the left operand back when the right one and the borrow are added to it. -/
theorem aluSub_value_add (l r : Byte) (c : Bool) :
    (aluSub l r c).value + r + (BitVec.ofBool c).setWidth 8 = l := by
  have hv := toNat_aluSub_value l r c
  have hc := c.toNat_le
  apply BitVec.eq_of_toNat_eq
  rw [BitVec.toNat_add, BitVec.toNat_add, BitVec.toNat_setWidth, BitVec.toNat_ofBool]
  omega

theorem aluAdd_h_eq_carry (l r : Byte) (c : Bool) : (aluAdd l r c).h = BitVec.carry 4 l r c := rfl

/-- The borrow of a difference is the carry of adding back what was subtracted. -/
theorem aluSub_h_eq_carry (l r : Byte) (c : Bool) :
    (aluSub l r c).h = BitVec.carry 4 (aluSub l r c).value r c := by
  have hv := toNat_aluSub_value l r c
  have hc := c.toNat_le
  refine decide_eq_decide.mpr ?_
  omega

theorem aluAdd_h_eq_xor (l r : Byte) (c : Bool) :
    (aluAdd l r c).h = (l ^^^ r ^^^ (aluAdd l r c).value).getLsbD 4 := by
  rw [aluAdd_value, getLsbD_xor_xor_adc (by decide), aluAdd_h_eq_carry]

theorem aluSub_h_eq_xor (l r : Byte) (c : Bool) :
    (aluSub l r c).h = (l ^^^ r ^^^ (aluSub l r c).value).getLsbD 4 := by
  have hback := getLsbD_xor_xor_adc (i := 4) (by decide) (aluSub l r c).value r c
  rw [aluSub_value_add] at hback
  rw [aluSub_h_eq_carry, ← hback]
  congr 1
  ac_rfl

theorem aluAdd_c_eq_bit (l r : Byte) (c : Bool) :
    (aluAdd l r c).c = (l.setWidth 9 + r.setWidth 9 + BitVec.ofNat 9 c.toNat).getLsbD 8 := by
  have hc := c.toNat_le
  rw [BitVec.getLsbD, Nat.testBit_eq_decide_div_mod_eq]
  refine decide_eq_decide.mpr ?_
  simp only [BitVec.toNat_add, BitVec.toNat_setWidth, BitVec.toNat_ofNat]
  omega

theorem aluSub_c_eq_bit (l r : Byte) (c : Bool) :
    (aluSub l r c).c = (l.setWidth 9 - r.setWidth 9 - BitVec.ofNat 9 c.toNat).getLsbD 8 := by
  have hc := c.toNat_le
  rw [BitVec.getLsbD, Nat.testBit_eq_decide_div_mod_eq]
  refine decide_eq_decide.mpr ?_
  simp only [BitVec.toNat_sub, BitVec.toNat_setWidth, BitVec.toNat_ofNat]
  omega

theorem aluSub_aluAdd_value (l r : Byte) (c : Bool) : (aluSub (aluAdd l r c).value r c).value = l := by
  have hsub := aluSub_value_add (aluAdd l r c).value r c
  have hadd := aluAdd_value l r c
  rw [BitVec.add_assoc] at hsub hadd
  exact add_right_cancel (hsub.trans hadd)

theorem aluSub_aluAdd_c (l r : Byte) (c : Bool) : (aluSub (aluAdd l r c).value r c).c = (aluAdd l r c).c := by
  have hv := toNat_aluAdd_value l r c
  have hc := c.toNat_le
  refine decide_eq_decide.mpr ?_
  omega

theorem add16L_h_eq_carry (l r : Word) : (add16L l r).h = BitVec.carry 4 l r false := rfl

theorem add16L_c_eq_carry (l r : Word) : (add16L l r).c = BitVec.carry 8 l r false := rfl

/-- The high bytes' half carry, which takes the low bytes' carry (R103), is the carry of the words into place 12. -/
theorem add16H_h_eq_carry (l r : Word) : (add16H l r).h = BitVec.carry 12 l r false := by
  rw [add16H_h]
  refine decide_eq_decide.mpr ?_
  rw [Bool.toNat_false]
  split <;> omega

theorem add16H_c_eq_bit (l r : Word) : (add16H l r).c = (l.setWidth 17 + r.setWidth 17).getLsbD 16 := by
  rw [add16H_c, BitVec.getLsbD, Nat.testBit_eq_decide_div_mod_eq]
  refine decide_eq_decide.mpr ?_
  simp only [BitVec.toNat_add, BitVec.toNat_setWidth]
  split <;> omega

/-- Settles O12: H is the carry that the exclusive or shows, and a difference's borrow is the carry of adding back. -/
theorem carriesAreBitwise : Obligations.CarriesAreBitwise := by
  unfold Obligations.CarriesAreBitwise
  refine ⟨fun l r c => ⟨aluAdd_h_eq_xor l r c, aluAdd_c_eq_bit l r c, aluSub_h_eq_xor l r c, aluSub_c_eq_bit l r c,
    aluSub_aluAdd_value l r c, aluSub_aluAdd_c l r c⟩, fun l r => ⟨?_, ?_, ?_, add16H_c_eq_bit l r⟩⟩
  · rw [getLsbD_xor_xor_add (by decide), add16L_h_eq_carry]
  · rw [getLsbD_xor_xor_add (by decide), add16L_c_eq_carry]
  · rw [getLsbD_xor_xor_add (by decide), add16H_h_eq_carry]

/-! ### The decimal adjustment (R104) -/

theorem toNat_bcdAdjust_add (v : Byte) (h c : Bool) :
    (bcdAdjust v false h c).value.toNat = (v.toNat + 0x60 * (c || decide (v.toNat > 0x99)).toNat +
      0x06 * (h || decide (v.toNat % 16 > 9)).toNat) % 256 := by
  simp [bcdAdjust, Nat.add_assoc]

theorem toNat_bcdAdjust_sub (v : Byte) (h c : Bool) :
    (bcdAdjust v true h c).value.toNat = (v.toNat + 256 - 0x60 * c.toNat - 0x06 * h.toNat) % 256 := by
  have hh := h.toNat_le
  have hc := c.toNat_le
  simp only [bcdAdjust, Bool.not_true, Bool.false_and, Bool.or_false, if_true, BitVec.toNat_sub, BitVec.toNat_ofNat]
  omega

theorem toNat_bcd {x : Nat} (hx : x < 100) : (bcd x).toNat = 16 * (x / 10) + x % 10 := by
  simp only [bcd, BitVec.toNat_ofNat]
  omega

/-- Addition of packed decimals: the binary sum, adjusted. -/
def bcdSum (x y : Nat) : AluResult 8 :=
  let sum := aluAdd (bcd x) (bcd y) false
  bcdAdjust sum.value false sum.h sum.c

/-- Subtraction of packed decimals: the binary difference, adjusted. -/
def bcdDifference (x y : Nat) : AluResult 8 :=
  let diff := aluSub (bcd x) (bcd y) false
  bcdAdjust diff.value true diff.h diff.c

/-- Digit by digit, `x + y` leaves `r` with the decimal carries `half` and `carry`; read from `r`, `r - y` leaves `x`
with these borrows. -/
structure DecimalAddition (x y r : Nat) (half carry : Bool) : Prop where
  left_lt : x < 100
  right_lt : y < 100
  result_lt : r < 100
  low : x % 10 + y % 10 = 10 * half.toNat + r % 10
  high : x / 10 + y / 10 + half.toNat = 10 * carry.toNat + r / 10

theorem decimalAddition_of_sum {x y : Nat} (hx : x < 100) (hy : y < 100) :
    DecimalAddition x y ((x + y) % 100) (decide (10 ≤ x % 10 + y % 10)) (decide (100 ≤ x + y)) := by
  refine ⟨hx, hy, Nat.mod_lt _ (by decide), ?_, ?_⟩ <;> simp only [toNat_decide_eq_ite]
  · split <;> omega
  · split_ifs <;> omega

theorem decimalAddition_of_difference {x y : Nat} (hx : x < 100) (hy : y < 100) :
    DecimalAddition ((x + 100 - y) % 100) y x (decide (x % 10 < y % 10)) (decide (x < y)) := by
  refine ⟨Nat.mod_lt _ (by decide), hy, hx, ?_, ?_⟩ <;> simp only [toNat_decide_eq_ite]
  · split <;> omega
  · split_ifs <;> omega

section
variable {x y r : Nat} {half carry : Bool}

/-- The binary sum of the packed bytes is short of the packed decimal sum by 6 for each low carry, and 160 of it are the
high carry. -/
theorem DecimalAddition.binary_sum (h : DecimalAddition x y r half carry) :
    (bcd x).toNat + (bcd y).toNat + 6 * half.toNat = (bcd r).toNat + 160 * carry.toNat := by
  obtain ⟨hx, hy, hr, hlow, hhigh⟩ := h
  rw [toNat_bcd hx, toNat_bcd hy, toNat_bcd hr]
  omega

theorem DecimalAddition.corrects_low (h : DecimalAddition x y r half carry) :
    ((aluAdd (bcd x) (bcd y) false).h || decide ((aluAdd (bcd x) (bcd y) false).value.toNat % 16 > 9)) = half := by
  obtain ⟨hx, hy, hr, hlow, -⟩ := h
  have hhalf := half.toNat_le
  rw [toNat_aluAdd_value]
  simp only [aluAdd, toNat_bcd, hx, hy, ← Bool.decide_or, Bool.toNat_false]
  refine decide_eq_of_iff_toNat ?_
  omega

theorem DecimalAddition.corrects_high (h : DecimalAddition x y r half carry) :
    ((aluAdd (bcd x) (bcd y) false).c || decide ((aluAdd (bcd x) (bcd y) false).value.toNat > 0x99)) = carry := by
  have hsum := h.binary_sum
  have hdigits := toNat_bcd h.result_lt
  obtain ⟨-, -, hr, hlow, -⟩ := h
  have hcarry := carry.toNat_le
  have hhalf := half.toNat_le
  rw [toNat_aluAdd_value]
  simp only [aluAdd, ← Bool.decide_or, Bool.toNat_false]
  refine decide_eq_of_iff_toNat ?_
  omega

/-- The corrections supply the 6 of the low carry, and with 96 for the high carry its 160 become 256. -/
theorem DecimalAddition.bcdSum_value (h : DecimalAddition x y r half carry) : (bcdSum x y).value = bcd r := by
  have hsum := h.binary_sum
  apply BitVec.eq_of_toNat_eq
  rw [bcdSum, toNat_bcdAdjust_add, h.corrects_low, h.corrects_high, toNat_aluAdd_value, Bool.toNat_false]
  omega

theorem DecimalAddition.borrows_low (h : DecimalAddition x y r half carry) :
    (aluSub (bcd r) (bcd y) false).h = half := by
  obtain ⟨hx, hy, hr, hlow, -⟩ := h
  have hhalf := half.toNat_le
  refine decide_eq_of_iff_toNat ?_
  rw [toNat_bcd hr, toNat_bcd hy, Bool.toNat_false]
  omega

theorem DecimalAddition.borrows_high (h : DecimalAddition x y r half carry) :
    (aluSub (bcd r) (bcd y) false).c = carry := by
  have hsum := h.binary_sum
  have hx := toNat_bcd h.left_lt
  have hlt := h.left_lt
  have hhalf := half.toNat_le
  have hcarry := carry.toNat_le
  refine decide_eq_of_iff_toNat ?_
  rw [Bool.toNat_false]
  omega

theorem DecimalAddition.bcdDifference_value (h : DecimalAddition x y r half carry) :
    (bcdDifference r y).value = bcd x := by
  have hsum := h.binary_sum
  have hv := toNat_aluSub_value (bcd r) (bcd y) false
  have hhalf := half.toNat_le
  have hcarry := carry.toNat_le
  rw [Bool.toNat_false] at hv
  apply BitVec.eq_of_toNat_eq
  rw [bcdDifference, toNat_bcdAdjust_sub, h.borrows_low, h.borrows_high]
  omega

end

/-- Settles O13: the corrections are made exactly where digit-by-digit addition carries, or subtraction borrows. -/
theorem decimalAdjustIsDecimal : Obligations.DecimalAdjustIsDecimal := by
  unfold Obligations.DecimalAdjustIsDecimal
  intro x y hx hy
  have hsum := decimalAddition_of_sum hx hy
  have hdiff := decimalAddition_of_difference hx hy
  refine ⟨hsum.bcdSum_value, hsum.corrects_high, hdiff.bcdDifference_value, ?_⟩
  exact (Bool.or_false _).trans hdiff.borrows_high

end Sys2Proof.Machine
end

section
/-! PROOFS. Flags in a result's packed number and in F (spec 00_scope.md R16, R17, 40_alu.md R115, 42_arith8.md R140),
and the instructions that adjust A or C (R169 to R172). -/

namespace Sys2Proof.Machine

open Sys2Proof.Rules

/-! ### Packed results (R16, R115) -/

theorem AluResult.pack_eq {w : Nat} (r : AluResult w) :
    r.pack = 256 * r.value.toNat + 128 * r.z.toNat + 64 * r.n.toNat + 32 * r.h.toNat + 16 * r.c.toNat := by
  unfold AluResult.pack
  omega

theorem AluResult.pack_div {w : Nat} (r : AluResult w) : r.pack / 256 = r.value.toNat := by
  have hz := r.z.toNat_le
  have hn := r.n.toNat_le
  have hh := r.h.toNat_le
  have hc := r.c.toNat_le
  rw [r.pack_eq]
  omega

theorem AluResult.unpack_pack {w : Nat} (r : AluResult w) : AluResult.unpack w r.pack = r := by
  have hz := r.z.toNat_le
  have hn := r.n.toNat_le
  have hh := r.h.toNat_le
  have hc := r.c.toNat_le
  have hpack := r.pack_eq
  have hvalue : BitVec.ofNat w (r.pack / 256) = r.value := by rw [r.pack_div, BitVec.ofNat_toNat, BitVec.setWidth_eq]
  have hz7 : r.pack.testBit 7 = r.z := testBit_eq_of_div_mod (by omega)
  have hn6 : r.pack.testBit 6 = r.n := testBit_eq_of_div_mod (by omega)
  have hh5 : r.pack.testBit 5 = r.h := testBit_eq_of_div_mod (by omega)
  have hc4 : r.pack.testBit 4 = r.c := testBit_eq_of_div_mod (by omega)
  rw [AluResult.unpack, hvalue, hz7, hn6, hh5, hc4]

/-! ### The flags of F (R17, R140) -/

theorem getLsbD_flagByte (z n h c : Bool) (i : Nat) :
    (flagByte z n h c).getLsbD i =
      (decide (7 = i) && z || decide (6 = i) && n || decide (5 = i) && h || decide (4 = i) && c) := by
  simp [flagByte, getLsbD_bitAt]

section
variable (z n h c : Bool)

@[simp] theorem flagZ_flagByte : flagZ (flagByte z n h c) = z := by
  rw [flagZ, getLsbD_flagByte]
  simp

@[simp] theorem flagN_flagByte : flagN (flagByte z n h c) = n := by
  rw [flagN, getLsbD_flagByte]
  simp

@[simp] theorem flagH_flagByte : flagH (flagByte z n h c) = h := by
  rw [flagH, getLsbD_flagByte]
  simp

@[simp] theorem flagC_flagByte : flagC (flagByte z n h c) = c := by
  rw [flagC, getLsbD_flagByte]
  simp

theorem flagByte_and_low : flagByte z n h c &&& 0x0F = 0 := by
  revert z n h c
  decide

end

theorem flags_eq_of_bits {w : Nat} {sel : Selector} {r : AluResult w} {f x : Byte}
    (h : ∀ i < 8, (decide (7 = i) && sel.z.pick r.z (f.getLsbD 7) || decide (6 = i) && sel.n.pick r.n (f.getLsbD 6) ||
      decide (5 = i) && sel.h.pick r.h (f.getLsbD 5) || decide (4 = i) && sel.c.pick r.c (f.getLsbD 4)) = x.getLsbD i) :
    flags sel r f = x :=
  BitVec.eq_of_getLsbD_eq fun i hi => (getLsbD_flagByte _ _ _ _ i).trans (h i hi)

theorem FlagSource.pick_eq (src : FlagSource) (alu now : Bool) :
    src.pick alu now = (decide (src = .one) || (decide (src = .alu) && alu) || (decide (src = .keep) && now) ||
      (decide (src = .flip) && !now)) := by
  cases src <;> simp [FlagSource.pick]

/-- Settles O15: each packed field is read back from its own place, and each flag of F from its own bit. -/
theorem packedResultsAndSelectors : Obligations.PackedResultsAndSelectors := by
  unfold Obligations.PackedResultsAndSelectors
  refine ⟨fun w r _ => ⟨r.unpack_pack, ?_, r.pack_div, r.pack_eq⟩, fun w sel r f =>
    ⟨FlagSource.pick_eq, flagZ_flagByte _ _ _ _, flagN_flagByte _ _ _ _, flagH_flagByte _ _ _ _, flagC_flagByte _ _ _ _,
      flagByte_and_low _ _ _ _⟩⟩
  rw [r.pack_eq]
  omega

/-! ### DAA, CPL, SCF and CCF (R169 to R172) -/

theorem flags_selDaa {w : Nat} (r : AluResult w) (f : Byte) :
    flags selDaa r f = (if r.z then 0x80 else 0) ||| (f &&& 0x40) ||| (if r.c then 0x10 else 0) :=
  flags_eq_of_bits fun i hi => by
    interval_cases i <;> cases r.z <;> cases r.c <;> simp [selDaa, FlagSource.pick]

theorem flags_selCpl {w : Nat} (r : AluResult w) (f : Byte) : flags selCpl r f = (f &&& 0x90) ||| 0x60 :=
  flags_eq_of_bits fun i hi => by interval_cases i <;> simp [selCpl, FlagSource.pick]

theorem flags_selScf {w : Nat} (r : AluResult w) (f : Byte) : flags selScf r f = (f &&& 0x80) ||| 0x10 :=
  flags_eq_of_bits fun i hi => by interval_cases i <;> simp [selScf, FlagSource.pick]

theorem flags_selCcf {w : Nat} (r : AluResult w) (f : Byte) : flags selCcf r f = (f &&& 0x90) ^^^ 0x10 :=
  flags_eq_of_bits fun i hi => by interval_cases i <;> simp [selCcf, FlagSource.pick]

theorem ofNat_corrections (hi lo : Bool) :
    BitVec.ofNat 8 (0x60 * hi.toNat + 0x06 * lo.toNat) =
      (if hi then (0x60 : Byte) else 0) + (if lo then 0x06 else 0) := by
  cases hi <;> cases lo <;> rfl

/-- The adjusted byte, its correction put together from two bytes (R104). -/
theorem bcdAdjust_value (v : Byte) (n h c : Bool) :
    (bcdAdjust v n h c).value =
      let fix : Byte := (if c || (!n && decide (v.toNat > 0x99)) then 0x60 else 0) +
        (if h || (!n && decide (v.toNat % 16 > 9)) then 0x06 else 0)
      if n then v - fix else v + fix := by
  simp only [bcdAdjust, ofNat_corrections]

theorem decimalAdjust_eq (s : State) :
    let r := bcdAdjust (s.reg .a) ((s.reg .f).getLsbD 6) ((s.reg .f).getLsbD 5) ((s.reg .f).getLsbD 4)
    decimalAdjust s = finish 1 1 ((s.setReg .a r.value).setReg .f
      ((if r.value = 0 then 0x80 else 0) ||| (s.reg .f &&& 0x40) ||| (if r.c then 0x10 else 0))) := by
  intro r
  have hz : (r.z = true) = (r.value = 0) := beq_iff_eq.eq
  have hflags := flags_selDaa r (s.reg .f)
  simp only [hz] at hflags
  rw [← hflags]
  exact State.retire_eq_finish 1 1 _

theorem complement8_eq_sub (v : Byte) : complement8 v = 0xFF - v := BitVec.allOnes_sub_eq_not v |>.symm

theorem complementA_eq (s : State) :
    complementA s = finish 1 1 ((s.setReg .a (0xFF - s.reg .a)).setReg .f ((s.reg .f &&& 0x90) ||| 0x60)) := by
  rw [← complement8_eq_sub, ← flags_selCpl noResult]
  exact State.retire_eq_finish 1 1 _

theorem setCarry_eq (s : State) : setCarry s = finish 1 1 (s.setReg .f ((s.reg .f &&& 0x80) ||| 0x10)) := by
  rw [← flags_selScf noResult]
  exact State.retire_eq_finish 1 1 _

theorem complementCarry_eq (s : State) :
    complementCarry s = finish 1 1 (s.setReg .f ((s.reg .f &&& 0x90) ^^^ 0x10)) := by
  rw [← flags_selCcf noResult]
  exact State.retire_eq_finish 1 1 _

/-- Settles O24: each instruction ends as `finish` with A's value and the flags its selector spells out. -/
theorem accumulatorAdjustments : Obligations.AccumulatorAdjustments := by
  unfold Obligations.AccumulatorAdjustments
  intro b1 b2 s a f n fixL fixH fix adjusted
  have hvalue : (bcdAdjust a n (f.getLsbD 5) (f.getLsbD 4)).value = adjusted := bcdAdjust_value a n _ _
  refine ⟨?_, congrArg Host.Outcome.next (complementA_eq s), congrArg Host.Outcome.next (setCarry_eq s),
    congrArg Host.Outcome.next (complementCarry_eq s)⟩
  rw [← hvalue]
  exact congrArg Host.Outcome.next (decimalAdjust_eq s)

end Sys2Proof.Machine
end

section
/-! PROOFS. The bitwise, single-bit, rotate and shift functions (spec 40_alu.md R105 to R113): the bits of each, and
every rotate and shift as a rotate through some carry. -/

namespace Sys2Proof.Machine

/-! ### Bits of the swap and the single-bit functions (R108 to R110) -/

theorem getLsbD_aluSwap (v : Byte) {i : Nat} (hi : i < 8) : (aluSwap v).value.getLsbD i = v.getLsbD ((i + 4) % 8) := by
  simp only [aluSwap, logicResult, BitVec.getLsbD_or, BitVec.getLsbD_shiftLeft, BitVec.getLsbD_and,
    BitVec.getLsbD_ushiftRight]
  interval_cases i <;> simp

theorem getLsbD_one_shiftLeft (b : BitVec 3) (i : Nat) : (1#8 <<< b.toNat).getLsbD i = decide (i = b.toNat) := by
  have hb : b.toNat < 8 := b.isLt
  rw [← BitVec.twoPow_eq, BitVec.getLsbD_twoPow, decide_eq_true hb, Bool.true_and, decide_eq_decide]
  exact eq_comm

theorem getLsbD_setBit (v : Byte) (b : BitVec 3) (i : Nat) :
    (setBit v b).getLsbD i = (v.getLsbD i || decide (i = b.toNat)) := by
  rw [setBit, BitVec.getLsbD_or, getLsbD_one_shiftLeft]

theorem getLsbD_resBit (v : Byte) (b : BitVec 3) {i : Nat} (hi : i < 8) :
    (resBit v b).getLsbD i = (v.getLsbD i && decide (i ≠ b.toNat)) := by
  rw [resBit, complement8, BitVec.getLsbD_and, BitVec.getLsbD_not, getLsbD_one_shiftLeft, decide_eq_true hi,
    Bool.true_and, decide_not]

/-! ### Rotates and shifts (R111 to R113) -/

/-- The byte's top bit, moved to the bottom. -/
theorem ushiftRight_seven (v : Byte) : v >>> 7 = bitAt 0 (v.getLsbD 7) := by
  refine BitVec.eq_of_getLsbD_eq fun i _ => ?_
  rw [BitVec.getLsbD_ushiftRight, getLsbD_bitAt (by decide)]
  cases i with
  | zero => rfl
  | succ i => exact BitVec.getLsbD_of_ge v _ (by omega)

/-- The byte's bottom bit, moved to the top. -/
theorem shiftLeft_seven (v : Byte) : v <<< 7 = bitAt 7 (v.getLsbD 0) := by
  refine BitVec.eq_of_getLsbD_eq fun i hi => ?_
  rw [BitVec.getLsbD_shiftLeft, getLsbD_bitAt (by decide)]
  obtain rfl | hne := eq_or_ne 7 i
  · rfl
  · have hlt : i < 7 := by omega
    simp [hne, hlt]

/-- The byte's top bit, kept in place. -/
theorem and_0x80 (v : Byte) : v &&& 0x80 = bitAt 7 (v.getLsbD 7) := BitVec.and_twoPow v 7

theorem rotate_left_eq (v : Byte) : rotate .left v = rotateThrough .left v (v.getLsbD 7) := by
  rw [rotate, rotateThrough, rotl8, BitVec.rotateLeft_def, ← ushiftRight_seven]

theorem rotate_right_eq (v : Byte) : rotate .right v = rotateThrough .right v (v.getLsbD 0) := by
  rw [rotate, rotateThrough, rotr8, BitVec.rotateRight_def, ← shiftLeft_seven]

theorem shiftLeft_eq (v : Byte) : shiftLeft v = rotateThrough .left v false := by
  simp [shiftLeft, rotateThrough, bitAt]

theorem shiftRightA_eq (v : Byte) : shiftRightA v = rotateThrough .right v (v.getLsbD 7) := by
  rw [shiftRightA, rotateThrough, and_0x80]

theorem shiftRightL_eq (v : Byte) : shiftRightL v = rotateThrough .right v false := by
  simp [shiftRightL, rotateThrough, bitAt]

theorem toNat_bitAt {i : Nat} (hi : i < 8) (b : Bool) : (bitAt i b).toNat = 2 ^ i * b.toNat := by
  cases b with
  | false => rfl
  | true =>
    rw [bitAt, if_pos rfl, ← BitVec.twoPow_eq, BitVec.toNat_twoPow_of_lt hi]
    simp

/-- A bit put where the byte has none adds its weight. -/
theorem toNat_or_bitAt {v : Byte} {i : Nat} (hi : i < 8) (hv : v.getLsbD i = false) (b : Bool) :
    (v ||| bitAt i b).toNat = v.toNat + 2 ^ i * b.toNat := by
  have hdisjoint : v &&& bitAt i b = 0 := by
    refine BitVec.eq_of_getLsbD_eq fun j _ => ?_
    rw [BitVec.getLsbD_and, getLsbD_bitAt hi]
    obtain rfl | hne := eq_or_ne i j
    · simp [hv]
    · simp [hne]
  rw [← BitVec.add_eq_or_of_and_eq_zero _ _ hdisjoint, BitVec.toNat_add_of_and_eq_zero hdisjoint, toNat_bitAt hi]

theorem toNat_rotateThrough_left (v : Byte) (c : Bool) :
    (rotateThrough .left v c).value.toNat = 2 * v.toNat % 256 + c.toNat := by
  rw [rotateThrough, shiftResult, toNat_or_bitAt (by decide) (by simp), BitVec.toNat_shiftLeft, Nat.shiftLeft_eq]
  omega

theorem toNat_rotateThrough_right (v : Byte) (c : Bool) :
    (rotateThrough .right v c).value.toNat = v.toNat / 2 + 128 * c.toNat := by
  rw [rotateThrough, shiftResult, toNat_or_bitAt (by decide) (by simp), BitVec.toNat_ushiftRight,
    Nat.shiftRight_eq_div_pow]
  rfl

/-- The bit that a left rotate or shift ejects. -/
theorem getLsbD_seven (v : Byte) : v.getLsbD 7 = decide (128 ≤ v.toNat) := BitVec.msb_eq_decide v

/-- The bit that a right rotate or shift ejects. -/
theorem getLsbD_zero (v : Byte) : v.getLsbD 0 = decide (v.toNat % 2 = 1) := Nat.testBit_zero v.toNat

theorem toNat_getLsbD_seven (v : Byte) : (v.getLsbD 7).toNat = v.toNat / 128 := by
  rw [getLsbD_seven, toNat_decide_eq_ite]
  split <;> omega

theorem toNat_getLsbD_zero (v : Byte) : (v.getLsbD 0).toNat = v.toNat % 2 := by
  rw [getLsbD_zero, toNat_decide_eq_ite]
  split <;> omega

theorem rotateThrough_left_flags (v : Byte) (c : Bool) :
    let r := rotateThrough .left v c
    r.z = (r.value == 0) ∧ r.n = false ∧ r.h = false ∧ r.c = decide (128 ≤ v.toNat) :=
  ⟨rfl, rfl, rfl, getLsbD_seven v⟩

theorem rotateThrough_right_flags (v : Byte) (c : Bool) :
    let r := rotateThrough .right v c
    r.z = (r.value == 0) ∧ r.n = false ∧ r.h = false ∧ r.c = decide (v.toNat % 2 = 1) :=
  ⟨rfl, rfl, rfl, getLsbD_zero v⟩

/-- Settles O14: every rotate and shift is a rotate through some carry, whose value and flags are known. -/
theorem bitwiseAndShiftFunctions : Obligations.BitwiseAndShiftFunctions := by
  unfold Obligations.BitwiseAndShiftFunctions
  refine ⟨⟨fun l r i hi => ⟨BitVec.getLsbD_and, BitVec.getLsbD_or, BitVec.getLsbD_xor, getLsbD_aluSwap l hi⟩,
    fun l r => ⟨⟨rfl, rfl, rfl, rfl⟩, ⟨rfl, rfl, rfl, rfl⟩, ⟨rfl, rfl, rfl, rfl⟩, ⟨rfl, rfl, rfl, rfl⟩⟩,
    fun v b i hi => ⟨rfl, rfl, rfl, rfl, getLsbD_setBit v b i, getLsbD_resBit v b hi⟩⟩, fun v c => ?_⟩
  rw [rotate_left_eq, rotate_right_eq, shiftLeft_eq, shiftRightA_eq, shiftRightL_eq]
  refine ⟨?_, ?_, toNat_rotateThrough_left v c, toNat_rotateThrough_right v c, toNat_rotateThrough_left v false, ?_,
    toNat_rotateThrough_right v false, fun r hr => ?_, fun r hr => ?_⟩
  · rw [toNat_rotateThrough_left, toNat_getLsbD_seven]
  · rw [toNat_rotateThrough_right, toNat_getLsbD_zero]
  · rw [toNat_rotateThrough_right, toNat_getLsbD_seven]
  · simp only [List.mem_cons, List.not_mem_nil, or_false] at hr
    obtain rfl | rfl | rfl := hr <;> exact rotateThrough_left_flags v _
  · simp only [List.mem_cons, List.not_mem_nil, or_false] at hr
    obtain rfl | rfl | rfl | rfl := hr <;> exact rotateThrough_right_flags v _

end Sys2Proof.Machine
end

section
/-! PROOFS. Operands by their fields (spec 30_encoding.md R87 to R89): the model's operands read, written and charged in
the words of the statements, PUSH and POP, and an instruction whose operation ends by moving PC past its bytes. -/

namespace Sys2Proof.Machine

open Sys2Proof.Rules

/-- A claim about every value of a field of an opcode holds when it holds of each, so they are gone through in turn. -/
theorem forall_field_of_forall_lt {w : Nat} {P : BitVec w → Prop} (h : ∀ n < 2 ^ w, P (BitVec.ofNat w n))
    (y : BitVec w) : P y := by
  simpa using h y.toNat y.isLt

/-! ### 8-bit operands (R88) -/

theorem State.readR8_r8OfField (s : State) (z : BitVec 3) : s.readR8 (r8OfField z) = operand s z := by
  revert z
  refine forall_field_of_forall_lt fun n hn => ?_
  interval_cases n <;> rfl

theorem State.writeR8_r8OfField (y : BitVec 3) (v : Byte) (s : State) :
    s.writeR8 (r8OfField y) v = putOperand y v s := by
  revert y
  refine forall_field_of_forall_lt fun n hn => ?_
  interval_cases n <;> rfl

/-- The (HL) form of an operation has its own cost. -/
theorem R8.cost_r8OfField (y : BitVec 3) (register memory : Nat) :
    (r8OfField y).cost register memory = if y = 6 then memory else register := by
  revert y
  refine forall_field_of_forall_lt fun n hn => ?_
  interval_cases n <;> rfl

/-! ### 16-bit operands (R89) -/

theorem State.writeR16_r16OfField (p : BitVec 2) (v : Word) (s : State) :
    s.writeR16 (r16OfField p) v = put16 p v s := by
  revert p
  refine forall_field_of_forall_lt fun n hn => ?_
  interval_cases n <;> rfl

theorem State.readR16Stk_r16StkOfField (s : State) (p : BitVec 2) :
    s.readR16Stk (r16StkOfField p) = readPair s p := by
  revert p
  refine forall_field_of_forall_lt fun n hn => ?_
  interval_cases n <;> rfl

theorem State.writeR16Stk_r16StkOfField (p : BitVec 2) (v : Word) (s : State) :
    s.writeR16Stk (r16StkOfField p) v = putPair p v s := by
  revert p
  refine forall_field_of_forall_lt fun n hn => ?_
  interval_cases n <;> rfl

/-- HL is the CPU's own, so a store leaves it (R23). -/
@[simp] theorem State.busWrite_hl (a : Word) (v : Byte) (s : State) : (s.busWrite a v).hl = s.hl := by
  simp only [State.hl, State.pair, State.reg_eq, State.busWrite_regs]

/-! ### The stack (R138) -/

/-- SP moves before the two stores of a push, which do not see it. -/
theorem State.pushWord_eq_pushed (v : Word) (s : State) : s.pushWord v = pushed v s := by
  have hhigh : s.sp - 2 + 1 = s.sp - 1 := by bv_omega
  rw [State.pushWord_eq, hhigh]
  rfl

/-! ### An instruction that ends by moving PC past its bytes -/

theorem exec_eq_run {i : Instr} {op : SharedOp} (h : sharedOp i = op) (s : State) : exec i s = .next (op.run s) :=
  h ▸ exec_sharedOp i s

theorem exec_eq_finish {i : Instr} {s t : State} {length cycles : Nat}
    (h : exec i s = .next (t.retire length cycles)) : exec i s = .next (finish length cycles t) :=
  State.retire_eq_finish length cycles t ▸ h

end Sys2Proof.Machine
end

section
/-! PROOFS. Loads, stores and stack transfers (spec 41_loads.md R116 to R139): the operation each opcode's fields select,
and its whole next state in the words of the statements. -/

namespace Sys2Proof.Machine

open Sys2Proof.Rules

/-! ### 8-bit loads (R116 to R120) -/

/-- `01 yyy zzz` is the load of operand y from operand z, but for HALT in the place of (HL) from (HL). -/
theorem sharedOp_loadR8 (y z : BitVec 3) (b1 b2 : Byte) :
    sharedOp (decode3 (opcode 1 y z) b1 b2) =
      if y = 6 ∧ z = 6 then .haltCpu else .loadR8 (r8OfField y) (r8OfField z) := by
  revert y z
  refine forall_field_of_forall_lt fun m hm => forall_field_of_forall_lt fun n hn => ?_
  interval_cases m <;> interval_cases n <;> rfl

/-- `00 yyy 110` is the load of operand y from the byte after it. -/
theorem sharedOp_loadN8 (y : BitVec 3) (b1 b2 : Byte) :
    sharedOp (decode3 (opcode 0 y 6) b1 b2) = .loadN8 (r8OfField y) b1 := by
  revert y
  refine forall_field_of_forall_lt fun n hn => ?_
  interval_cases n <;> rfl

/-- A load costs 2 cycles when either operand is (HL). -/
theorem max_cost_r8OfField (y z : BitVec 3) :
    max ((r8OfField y).cost 1 2) ((r8OfField z).cost 1 2) = if y = 6 ∨ z = 6 then 2 else 1 := by
  rw [R8.cost_r8OfField, R8.cost_r8OfField]
  by_cases hy : y = 6
  · rw [if_pos hy, if_pos (Or.inl hy : y = 6 ∨ z = 6)]
    split <;> rfl
  · simp only [hy, if_false, false_or]
    split <;> rfl

theorem loadR8_eq (y z : BitVec 3) (s : State) :
    loadR8 (r8OfField y) (r8OfField z) s =
      finish 1 (if y = 6 ∨ z = 6 then 2 else 1) (putOperand y (operand s z) s) := by
  rw [loadR8, State.retire_eq_finish, State.writeR8_r8OfField, State.readR8_r8OfField, max_cost_r8OfField]

theorem loadN8_eq (y : BitVec 3) (v : Byte) (s : State) :
    loadN8 (r8OfField y) v s = finish 2 (if y = 6 then 3 else 2) (putOperand y v s) := by
  rw [loadN8, State.retire_eq_finish, State.writeR8_r8OfField, R8.cost_r8OfField]

/-- Settles O16: the fields select the load's operands, and the load writes the one with the other's byte. -/
theorem byteLoads : Obligations.ByteLoads := by
  unfold Obligations.ByteLoads
  refine ⟨fun y z b1 b2 s h => ?_, fun y b1 b2 s => ?_⟩
  · have hop := (sharedOp_loadR8 y z b1 b2).trans (if_neg h)
    rw [exec_eq_run hop, SharedOp.run, loadR8_eq]
  · rw [exec_eq_run (sharedOp_loadN8 y b1 b2), SharedOp.run, loadN8_eq]

/-! ### The accumulator's loads and stores (R121 to R134) -/

/-- HL moves after a store through it from where it was before the store, which leaves it (R127, R128). -/
theorem retire_setHl_busWrite_eq (move : Word → Word) (a : Word) (v : Byte) (s : State) :
    (State.setHl (move (s.busWrite a v).hl) (s.busWrite a v)).retire 1 2 =
      finish 1 2 (putPair 2 (move (hlOf s)) (s.busWrite a v)) := by
  rw [State.retire_eq_finish, State.busWrite_hl]
  rfl

/-- Settles O17: each is its access, then HL's move; a load of A leaves HL by computation, a store because HL is the
CPU's own. -/
theorem accumulatorIndirect : Obligations.AccumulatorIndirect := by
  unfold Obligations.AccumulatorIndirect
  refine ⟨fun b1 b2 s => ⟨exec_eq_finish rfl, exec_eq_finish rfl, exec_eq_finish rfl, exec_eq_finish rfl⟩,
    fun b1 b2 s => ⟨exec_eq_finish rfl, exec_eq_finish rfl, ?_, ?_⟩⟩
  · exact congrArg Host.Outcome.next (retire_setHl_busWrite_eq (· + 1) (hlOf s) (s.reg .a) s)
  · exact congrArg Host.Outcome.next (retire_setHl_busWrite_eq (· - 1) (hlOf s) (s.reg .a) s)

/-- Settles O18: each is one access by A and the move of PC; the high page's address is 0xFF before its low byte. -/
theorem loadAndStoreAccumulatorDirect : Obligations.LoadAndStoreAccumulatorDirect := by
  unfold Obligations.LoadAndStoreAccumulatorDirect
  intro b1 b2 s
  rw [← highPage_eq_append, ← highPage_eq_append]
  exact ⟨exec_eq_finish rfl, exec_eq_finish rfl, exec_eq_finish rfl, exec_eq_finish rfl, exec_eq_finish rfl,
    exec_eq_finish rfl⟩

/-! ### 16-bit loads and the stack (R135 to R139) -/

theorem sharedOp_loadR16 (p : BitVec 2) (b1 b2 : Byte) :
    sharedOp (decode3 (opcodeP 0 p 0 1) b1 b2) = .loadR16 (r16OfField p) (imm16 b1 b2) := by
  revert p
  refine forall_field_of_forall_lt fun n hn => ?_
  interval_cases n <;> rfl

theorem sharedOp_pushR16 (p : BitVec 2) (b1 b2 : Byte) :
    sharedOp (decode3 (opcodeP 3 p 0 5) b1 b2) = .pushR16 (r16StkOfField p) := by
  revert p
  refine forall_field_of_forall_lt fun n hn => ?_
  interval_cases n <;> rfl

theorem sharedOp_popR16 (p : BitVec 2) (b1 b2 : Byte) :
    sharedOp (decode3 (opcodeP 3 p 0 1) b1 b2) = .popR16 (r16StkOfField p) := by
  revert p
  refine forall_field_of_forall_lt fun n hn => ?_
  interval_cases n <;> rfl

theorem loadR16_eq (p : BitVec 2) (n : Word) (s : State) :
    loadR16 (r16OfField p) n s = finish 3 3 (put16 p n s) := by
  rw [loadR16, State.retire_eq_finish, State.writeR16_r16OfField]

theorem pushR16_eq (p : BitVec 2) (s : State) :
    pushR16 (r16StkOfField p) s = finish 1 4 (pushed (readPair s p) s) := by
  rw [pushR16, State.retire_eq_finish, State.readR16Stk_r16StkOfField, State.pushWord_eq_pushed]

theorem popR16_eq (p : BitVec 2) (s : State) :
    popR16 (r16StkOfField p) s = finish 1 3 (putPair p (popped s) { s with sp := s.sp + 2 }) := by
  rw [popR16, State.retire_eq_finish, State.writeR16Stk_r16StkOfField]
  rfl

/-- POP AF takes F from the byte at SP, its low four bits 0 (R22, R139). -/
theorem popR16_af_f (s : State) : (popR16 .af s).regs.f = s.busRead s.sp &&& 0xF0 := by
  have hregs : (popR16 .af s).regs.f = lo8 s.stackTop &&& 0xF0 := congrArg (fun t => t.regs.f) (popR16_eq 3 s)
  rw [hregs, State.stackTop, lo8_make16]

/-- Settles O19: the field selects the pair of a 16-bit load, a push and a pop, each of which is what the statement's
pair operations do to that pair. -/
theorem sixteenBitLoadsAndStack : Obligations.SixteenBitLoadsAndStack := by
  unfold Obligations.SixteenBitLoadsAndStack
  refine ⟨fun p b1 b2 s => ⟨?_, exec_eq_finish rfl, exec_eq_finish rfl⟩, fun p b1 b2 s => ⟨?_, ?_, fun t ht => ?_⟩⟩
  · rw [exec_eq_run (sharedOp_loadR16 p b1 b2), SharedOp.run, loadR16_eq]
  · rw [exec_eq_run (sharedOp_pushR16 p b1 b2), SharedOp.run, pushR16_eq]
  · rw [exec_eq_run (sharedOp_popR16 p b1 b2), SharedOp.run, popR16_eq]
  · obtain rfl : popR16 .af s = t := Host.Outcome.next.inj ht
    exact popR16_af_f s

end Sys2Proof.Machine
end

section
/-! PROOFS. The 8-bit arithmetic and logic of registers and memory (spec 42_arith8.md R140 to R168): the ALU operation
each field selects, in the words of the statements, and INC and DEC. -/

namespace Sys2Proof.Machine

open Sys2Proof.Rules

/-! ### The ALU operation of a field (R91) -/

theorem AluOp.result_aluOpOfField (y : BitVec 3) (a v : Byte) (c : Bool) :
    (aluOpOfField y).result a v c = aluFunction y a v c := by
  revert y
  refine forall_field_of_forall_lt fun n hn => ?_
  interval_cases n <;> rfl

theorem AluOp.selector_aluOpOfField (y : BitVec 3) : (aluOpOfField y).selector = aluFlags y := by
  revert y
  refine forall_field_of_forall_lt fun n hn => ?_
  interval_cases n <;> rfl

/-- CP, the field 7, is the one operation that leaves A (R153). -/
theorem AluOp.writesA_aluOpOfField (y : BitVec 3) : (aluOpOfField y).writesA = !decide (y = 7) := by
  revert y
  refine forall_field_of_forall_lt fun n hn => ?_
  interval_cases n <;> rfl

/-- A and F are different slots, so the flags are the same whether A is written before or after them. -/
theorem State.setFlags_setReg_a {w : Nat} (sel : Selector) (r : AluResult w) (v : Byte) (s : State) :
    (s.setReg .a v).setFlags sel r = (putFlags sel r s).setReg .a v := rfl

theorem State.aluFinish_eq_aluInto (y : BitVec 3) (v : Byte) (s : State) :
    s.aluFinish (aluOpOfField y) ((aluOpOfField y).result (s.reg .a) v s.carry) = aluInto y v s := by
  rw [State.aluFinish, AluOp.result_aluOpOfField, AluOp.selector_aluOpOfField, AluOp.writesA_aluOpOfField]
  by_cases hcp : y = 7
  · subst hcp
    rfl
  · have hwrites : (!decide (y = 7)) = true := congrArg not (decide_eq_false hcp)
    rw [if_pos hwrites, State.setFlags_setReg_a]
    exact (if_neg hcp).symm

/-! ### ALU operations of A (R141 to R164) -/

/-- `10 yyy zzz` is the ALU operation y of A with operand z. -/
theorem sharedOp_aluR8 (y z : BitVec 3) (b1 b2 : Byte) :
    sharedOp (decode3 (opcode 2 y z) b1 b2) = .aluR8 (aluOpOfField y) (r8OfField z) := by
  revert y z
  refine forall_field_of_forall_lt fun m hm => forall_field_of_forall_lt fun n hn => ?_
  interval_cases m <;> interval_cases n <;> rfl

/-- `11 yyy 110` is the ALU operation y of A with the byte after it. -/
theorem sharedOp_aluN8 (y : BitVec 3) (b1 b2 : Byte) :
    sharedOp (decode3 (opcode 3 y 6) b1 b2) = .aluN8 (aluOpOfField y) b1 := by
  revert y
  refine forall_field_of_forall_lt fun n hn => ?_
  interval_cases n <;> rfl

theorem aluR8_eq (y z : BitVec 3) (s : State) :
    aluR8 (aluOpOfField y) (r8OfField z) s =
      finish 1 (if z = 6 then 2 else 1) (aluInto y (operand s z) s) := by
  rw [aluR8, State.retire_eq_finish, State.readR8_r8OfField, State.aluFinish_eq_aluInto, R8.cost_r8OfField]

theorem aluN8_eq (y : BitVec 3) (v : Byte) (s : State) :
    aluN8 (aluOpOfField y) v s = finish 2 2 (aluInto y v s) := by
  rw [aluN8, State.retire_eq_finish, State.aluFinish_eq_aluInto]

/-- Every operation of the block `10 yyy zzz`, arithmetic and logic alike, has one form. -/
theorem exec_aluR8 (y z : BitVec 3) (b1 b2 : Byte) (s : State) :
    exec (decode3 (opcode 2 y z) b1 b2) s =
      .next (finish 1 (if z = 6 then 2 else 1) (aluInto y (operand s z) s)) := by
  rw [exec_eq_run (sharedOp_aluR8 y z b1 b2), SharedOp.run, aluR8_eq]

/-- Settles O20: the fields select the operation and its operand, for arithmetic as for the whole block. -/
theorem arithmeticOfAWithOperand : Obligations.ArithmeticOfAWithOperand :=
  fun y z b1 b2 s _ => exec_aluR8 y z b1 b2 s

/-- Settles O21: the fields select the operation and its operand, for logic as for the whole block. -/
theorem logicOfAWithOperand : Obligations.LogicOfAWithOperand :=
  fun y z b1 b2 s _ _ => exec_aluR8 y z b1 b2 s

/-- Settles O22: the field selects the operation, whose operand is the byte after the opcode. -/
theorem aluWithImmediate : Obligations.AluWithImmediate := by
  unfold Obligations.AluWithImmediate
  intro y b1 b2 s
  rw [exec_eq_run (sharedOp_aluN8 y b1 b2), SharedOp.run, aluN8_eq]

/-! ### INC and DEC (R165 to R168) -/

theorem sharedOp_incrementR8 (y : BitVec 3) (b1 b2 : Byte) :
    sharedOp (decode3 (opcode 0 y 4) b1 b2) = .incrementR8 (r8OfField y) := by
  revert y
  refine forall_field_of_forall_lt fun n hn => ?_
  interval_cases n <;> rfl

theorem sharedOp_decrementR8 (y : BitVec 3) (b1 b2 : Byte) :
    sharedOp (decode3 (opcode 0 y 5) b1 b2) = .decrementR8 (r8OfField y) := by
  revert y
  refine forall_field_of_forall_lt fun n hn => ?_
  interval_cases n <;> rfl

/-- An operation on an operand in place: the operand takes the result's value, then F the flags. -/
theorem retire_setFlags_writeR8_eq (sel : Selector) (r : AluResult 8) (y : BitVec 3) (s : State) :
    ((s.writeR8 (r8OfField y) r.value).setFlags sel r).retire 1 ((r8OfField y).cost 1 3) =
      finish 1 (if y = 6 then 3 else 1) (putFlags sel r (putOperand y r.value s)) := by
  rw [State.retire_eq_finish, State.writeR8_r8OfField, R8.cost_r8OfField]
  rfl

theorem incrementR8_eq (y : BitVec 3) (s : State) :
    let up := aluAdd (operand s y) 1 false
    incrementR8 (r8OfField y) s =
      finish 1 (if y = 6 then 3 else 1) (putFlags selInc up (putOperand y up.value s)) := by
  rw [incrementR8, State.readR8_r8OfField]
  exact retire_setFlags_writeR8_eq selInc _ y s

theorem decrementR8_eq (y : BitVec 3) (s : State) :
    let down := aluSub (operand s y) 1 false
    decrementR8 (r8OfField y) s =
      finish 1 (if y = 6 then 3 else 1) (putFlags selDec down (putOperand y down.value s)) := by
  rw [decrementR8, State.readR8_r8OfField]
  exact retire_setFlags_writeR8_eq selDec _ y s

/-- Settles O23: the field selects the operand, which takes the sum or difference with 1; the selectors keep C. -/
theorem incrementAndDecrement : Obligations.IncrementAndDecrement := by
  unfold Obligations.IncrementAndDecrement
  intro y b1 b2 s up down
  constructor
  · rw [exec_eq_run (sharedOp_incrementR8 y b1 b2), SharedOp.run, incrementR8_eq, selInc]
  · rw [exec_eq_run (sharedOp_decrementR8 y b1 b2), SharedOp.run, decrementR8_eq, selDec]

end Sys2Proof.Machine
end

section
/-! PROOFS. The 16-bit arithmetic (spec 43_arith16.md R173 to R177): the pair each opcode's field selects, the low byte of
a sign-extended offset, and each instruction's whole next state in the words of the statements. -/

namespace Sys2Proof.Machine

open Sys2Proof.Rules

/-! ### ADD HL,r16, INC r16 and DEC r16 (R173 to R175) -/

theorem State.readR16_r16OfField (s : State) (p : BitVec 2) : s.readR16 (r16OfField p) = read16 s p := by
  revert p
  refine forall_field_of_forall_lt fun n hn => ?_
  interval_cases n <;> rfl

/-- `00 pp1 001`, `00 pp0 011` and `00 pp1 011` are ADD HL, INC and DEC of the pair p. -/
theorem sharedOp_arith16 (p : BitVec 2) (b1 b2 : Byte) :
    sharedOp (decode3 (opcodeP 0 p 1 1) b1 b2) = .addHl (r16OfField p) ∧
    sharedOp (decode3 (opcodeP 0 p 0 3) b1 b2) = .incrementR16 (r16OfField p) ∧
    sharedOp (decode3 (opcodeP 0 p 1 3) b1 b2) = .decrementR16 (r16OfField p) := by
  revert p
  refine forall_field_of_forall_lt fun n hn => ?_
  interval_cases n <;> exact ⟨rfl, rfl, rfl⟩

theorem addHl_eq (p : BitVec 2) (s : State) :
    addHl (r16OfField p) s =
      finish 1 2 (putFlags selAddHl (add16H (hlOf s) (read16 s p)) (putPair 2 (hlOf s + read16 s p) s)) := by
  rw [addHl, State.retire_eq_finish, State.readR16_r16OfField]
  rfl

theorem incrementR16_eq (p : BitVec 2) (s : State) :
    incrementR16 (r16OfField p) s = finish 1 2 (put16 p (read16 s p + 1) s) := by
  rw [incrementR16, State.retire_eq_finish, State.readR16_r16OfField, State.writeR16_r16OfField]

theorem decrementR16_eq (p : BitVec 2) (s : State) :
    decrementR16 (r16OfField p) s = finish 1 2 (put16 p (read16 s p - 1) s) := by
  rw [decrementR16, State.retire_eq_finish, State.readR16_r16OfField, State.writeR16_r16OfField]

/-! ### ADD SP,e8 and LD HL,SP+e8 (R176, R177) -/

/-- Sign extension leaves the low byte, so the low-byte addition sees the offset as unsigned. -/
theorem toNat_sext16_mod (e8 : Byte) : (sext16 e8).toNat % 256 = e8.toNat := by
  rw [sext16, BitVec.toNat_signExtend, BitVec.toNat_setWidth]
  split <;> omega

theorem flags_selSpE8 {w : Nat} (r : AluResult w) (f : Byte) :
    flags selSpE8 r f = (if r.h then 0x20 else 0) ||| (if r.c then 0x10 else 0) :=
  flags_eq_of_bits fun i hi => by
    interval_cases i <;> cases r.h <;> cases r.c <;> simp [selSpE8, FlagSource.pick]

/-- The flags of SP plus an offset, those of the unsigned low-byte addition. -/
theorem flags_add16L_sext16 (sp : Word) (e8 f : Byte) :
    flags selSpE8 (add16L sp (sext16 e8)) f =
      (if sp.toNat % 16 + e8.toNat % 16 > 15 then 0x20 else 0) |||
        (if sp.toNat % 256 + e8.toNat > 255 then 0x10 else 0) := by
  have hbyte := toNat_sext16_mod e8
  have hnibble : (sext16 e8).toNat % 16 = e8.toNat % 16 := by omega
  simp only [flags_selSpE8, add16L, hbyte, hnibble, decide_eq_true_eq]

/-- Settles O25: the field selects the pair, and the two SP forms take the flags of the offset's own byte. -/
theorem sixteenBitArithmetic : Obligations.SixteenBitArithmetic := by
  unfold Obligations.SixteenBitArithmetic
  refine ⟨fun p b1 b2 s => ?_, fun b1 b2 s => ?_⟩
  · obtain ⟨hadd, hinc, hdec⟩ := sharedOp_arith16 p b1 b2
    refine ⟨?_, ?_, ?_⟩
    · rw [exec_eq_run hadd, SharedOp.run, addHl_eq, selAddHl]
    · rw [exec_eq_run hinc, SharedOp.run, incrementR16_eq]
    · rw [exec_eq_run hdec, SharedOp.run, decrementR16_eq]
  · rw [← flags_add16L_sext16 s.sp b1 (s.reg .f)]
    exact ⟨exec_eq_finish rfl, exec_eq_finish rfl⟩

end Sys2Proof.Machine
end

section
/-! PROOFS. Rotates, shifts and bit operations (spec 44_rotate_shift_bit.md R178 to R203): the operation the fields of an
opcode or of the byte after the prefix select, and its whole next state in the words of the statements. -/

namespace Sys2Proof.Machine

open Sys2Proof.Rules

/-! ### The byte after the prefix (R84, R87, R92) -/

@[simp] theorem fieldX_opcode (x : BitVec 2) (y z : BitVec 3) : fieldX (opcode x y z) = x :=
  (BitVec.extractLsb'_append_eq_of_le (by decide)).trans BitVec.extractLsb'_append_eq_left

@[simp] theorem fieldY_opcode (x : BitVec 2) (y z : BitVec 3) : fieldY (opcode x y z) = y :=
  (BitVec.extractLsb'_append_eq_of_le (by decide)).trans BitVec.extractLsb'_append_eq_right

@[simp] theorem fieldZ_opcode (x : BitVec 2) (y z : BitVec 3) : fieldZ (opcode x y z) = z :=
  BitVec.extractLsb'_append_eq_right

/-- The field x selects the kind of operation, y the rotate or the bit, and z the operand. -/
theorem secondTable_opcode (y z : BitVec 3) (s : State) :
    secondTable (opcode 0 y z) s = rotateR8 (rotOpOfField y) (r8OfField z) s ∧
    secondTable (opcode 1 y z) s = testR8 y (r8OfField z) s ∧
    secondTable (opcode 2 y z) s = resetR8 y (r8OfField z) s ∧
    secondTable (opcode 3 y z) s = setR8 y (r8OfField z) s := by
  simp [secondTable]

theorem exec_prefixed (op2 b2 : Byte) (s : State) : exec (decode3 0xCB op2 b2) s = .next (secondTable op2 s) :=
  exec_tableTwoInstr op2 s

/-! ### Rotates, shifts and SWAP (R178 to R197) -/

theorem RotOp.result_rotOpOfField (y : BitVec 3) (v : Byte) (c : Bool) :
    (rotOpOfField y).result v c = rotFunction y v c := by
  revert y
  refine forall_field_of_forall_lt fun n hn => ?_
  interval_cases n <;> rfl

/-- SWAP, the field 6, is the one operation that clears C (R196). -/
theorem RotOp.selector_rotOpOfField (y : BitVec 3) :
    (rotOpOfField y).selector = if y = 6 then selOr else selRot := by
  revert y
  refine forall_field_of_forall_lt fun n hn => ?_
  interval_cases n <;> rfl

/-- `000 yy 111` are the rotates of A; the fields from 4 on are DAA, CPL, SCF and CCF. -/
theorem sharedOp_rotateA (y : BitVec 3) (b1 b2 : Byte) (hy : y < 4) :
    sharedOp (decode3 (opcode 0 y 7) b1 b2) = .rotateA (rotOpOfField y) := by
  revert y
  refine forall_field_of_forall_lt fun n hn hy => ?_
  have hlt : n < 4 := by rwa [BitVec.lt_def, BitVec.toNat_ofNat, Nat.mod_eq_of_lt hn] at hy
  interval_cases n <;> rfl

theorem flags_selRotA {w : Nat} (r : AluResult w) (f : Byte) : flags selRotA r f = if r.c then 0x10 else 0 :=
  flags_eq_of_bits fun i hi => by interval_cases i <;> cases r.c <;> simp [selRotA, FlagSource.pick]

theorem rotateA_eq (y : BitVec 3) (s : State) :
    let r := rotFunction y (s.reg .a) ((s.reg .f).getLsbD 4)
    rotateA (rotOpOfField y) s = finish 1 1 ((s.setReg .a r.value).setReg .f (if r.c then 0x10 else 0)) := by
  intro r
  rw [rotateA, RotOp.result_rotOpOfField, State.retire_eq_finish, State.setFlags, flags_selRotA]
  rfl

theorem rotateR8_eq (y z : BitVec 3) (s : State) :
    let r := rotFunction y (operand s z) ((s.reg .f).getLsbD 4)
    rotateR8 (rotOpOfField y) (r8OfField z) s =
      finish 2 (if z = 6 then 4 else 2) (putFlags (if y = 6 then selOr else selRot) r (putOperand z r.value s)) := by
  intro r
  rw [rotateR8, RotOp.result_rotOpOfField, RotOp.selector_rotOpOfField, State.readR8_r8OfField,
    State.writeR8_r8OfField, R8.cost_r8OfField, State.retire_eq_finish]
  rfl

/-- Every operation of the block `00 yyy zzz` after the prefix, rotates, shifts and SWAP alike, has one form. -/
theorem exec_rotateR8 (y z : BitVec 3) (b2 : Byte) (s : State) :
    let r := rotFunction y (operand s z) ((s.reg .f).getLsbD 4)
    exec (decode3 0xCB (opcode 0 y z) b2) s =
      .next (finish 2 (if z = 6 then 4 else 2)
        (putFlags (if y = 6 then selOr else selRot) r (putOperand z r.value s))) := by
  obtain ⟨hrotate, -⟩ := secondTable_opcode y z s
  rw [exec_prefixed, hrotate, rotateR8_eq]

/-- Settles O26: the field selects the rotate, whose selector for A forces Z to 0 and for another operand computes it. -/
theorem rotates : Obligations.Rotates := by
  unfold Obligations.Rotates
  refine ⟨fun y b1 b2 s hy => ?_, fun y z b2 s hy => ?_⟩
  · rw [exec_eq_run (sharedOp_rotateA y b1 b2 hy), SharedOp.run, rotateA_eq]
  · have hswap : y ≠ 6 := by
      rintro rfl
      exact absurd hy (by decide)
    rw [exec_rotateR8, if_neg hswap, selRot]

/-- Settles O27: the fields select the operation and its operand, and SWAP alone has the selector that clears C. -/
theorem prefixedShiftsAndSwap : Obligations.PrefixedShiftsAndSwap :=
  fun y z b2 s _ => exec_rotateR8 y z b2 s

/-! ### Single bits (R198 to R203) -/

theorem flags_selBit_testBit (v : Byte) (b : BitVec 3) (f : Byte) :
    flags selBit (testBit v b) f = (if v.getLsbD b.toNat then 0 else 0x80) ||| 0x20 ||| (f &&& 0x10) :=
  flags_eq_of_bits fun i hi => by
    rw [testBit]
    interval_cases i <;> cases v.getLsbD b.toNat <;> simp [selBit, FlagSource.pick]

theorem testR8_eq (y z : BitVec 3) (s : State) :
    testR8 y (r8OfField z) s = finish 2 (if z = 6 then 3 else 2)
      (s.setReg .f ((if (operand s z).getLsbD y.toNat then 0 else 0x80) ||| 0x20 ||| (s.reg .f &&& 0x10))) := by
  rw [testR8, State.retire_eq_finish, State.setFlags, flags_selBit_testBit, State.readR8_r8OfField,
    R8.cost_r8OfField]

theorem resetR8_eq (y z : BitVec 3) (s : State) :
    resetR8 y (r8OfField z) s =
      finish 2 (if z = 6 then 4 else 2) (putOperand z (operand s z &&& ~~~(1#8 <<< y.toNat)) s) := by
  rw [resetR8, State.retire_eq_finish, State.writeR8_r8OfField, State.readR8_r8OfField, R8.cost_r8OfField, resBit,
    complement8]

theorem setR8_eq (y z : BitVec 3) (s : State) :
    setR8 y (r8OfField z) s =
      finish 2 (if z = 6 then 4 else 2) (putOperand z (operand s z ||| (1#8 <<< y.toNat)) s) := by
  rw [setR8, State.retire_eq_finish, State.writeR8_r8OfField, State.readR8_r8OfField, R8.cost_r8OfField, setBit]

/-- Settles O28: x selects BIT, RES or SET, y the bit and z the operand. -/
theorem singleBits : Obligations.SingleBits := by
  unfold Obligations.SingleBits
  refine ⟨fun y z b2 s => ?_, fun y z b2 s => ?_⟩
  all_goals obtain ⟨-, hbit, hres, hset⟩ := secondTable_opcode y z s
  · rw [exec_prefixed, hbit, testR8_eq]
  · constructor
    · rw [exec_prefixed, hres, resetR8_eq]
    · rw [exec_prefixed, hset, setR8_eq]

end Sys2Proof.Machine
end

section
/-! PROOFS. Jumps, calls, returns and restarts (spec 45_control.md R204 to R214): an instruction that ends by setting PC,
the condition each opcode's field selects, and each instruction's whole next state in the words of the statements. -/

namespace Sys2Proof.Machine

open Sys2Proof.Rules

/-! ### An instruction that ends by setting PC (R230) -/

theorem State.jump_eq_finishAt (target : Word) (cycles : Nat) (s : State) :
    s.jump target cycles = finishAt target cycles s := State.promote_eq _

theorem exec_eq_finishAt {i : Instr} {s t : State} {target : Word} {cycles : Nat}
    (h : exec i s = .next (t.jump target cycles)) : exec i s = .next (finishAt target cycles t) :=
  State.jump_eq_finishAt target cycles t ▸ h

/-! ### Conditions (R29, R90) -/

theorem Cond.holds_condOfField (cc : BitVec 2) (s : State) :
    (condOfField cc).holds (s.reg .f) = condition s cc := by
  revert cc
  refine forall_field_of_forall_lt fun n hn => ?_
  interval_cases n <;> rfl

/-- A conditional instruction sets PC where the field's condition holds and only moves past its bytes where not. -/
theorem ite_jump_retire_eq (cc : BitVec 2) (target : Word) (extra length cycles : Nat) (s t : State) :
    (if (condOfField cc).holds (s.reg .f) then t.jump target extra else s.retire length cycles) =
      if condition s cc then finishAt target extra t else finish length cycles s := by
  rw [Cond.holds_condOfField, State.jump_eq_finishAt, State.retire_eq_finish]

/-- `110 cc 010`, `110 cc 100`, `110 cc 000` and `001 cc 000` are JP, CALL, RET and JR on the condition cc. -/
theorem sharedOp_conditional (cc : BitVec 2) (b1 b2 : Byte) :
    sharedOp (decode3 (opcodeIf cc 2) b1 b2) = .jumpAbsoluteIf (condOfField cc) (imm16 b1 b2) ∧
    sharedOp (decode3 (opcodeIf cc 4) b1 b2) = .callIf (condOfField cc) (imm16 b1 b2) ∧
    sharedOp (decode3 (opcodeIf cc 0) b1 b2) = .returnIf (condOfField cc) ∧
    sharedOp (decode3 (opcodeJrIf cc) b1 b2) = .jumpRelativeIf (condOfField cc) b1 := by
  revert cc
  refine forall_field_of_forall_lt fun n hn => ?_
  interval_cases n <;> exact ⟨rfl, rfl, rfl, rfl⟩

/-! ### Jumps (R204 to R208) -/

/-- Settles O29: each sets PC to its target, a conditional one where the condition its field selects holds. -/
theorem jumps : Obligations.Jumps := by
  unfold Obligations.Jumps
  intro cc b1 b2 s near
  obtain ⟨hjp, -, -, hjr⟩ := sharedOp_conditional cc b1 b2
  refine ⟨exec_eq_finishAt rfl, ?_, exec_eq_finishAt rfl, exec_eq_finishAt rfl, ?_⟩
  · rw [exec_eq_run hjp, SharedOp.run, jumpAbsoluteIf, ite_jump_retire_eq]
  · rw [exec_eq_run hjr, SharedOp.run, jumpRelativeIf, ite_jump_retire_eq]
    rfl

/-! ### Calls, restarts and returns (R209 to R214) -/

/-- `11 yyy 111` is the restart at eight times its field. -/
theorem sharedOp_restart (y : BitVec 3) (b1 b2 : Byte) :
    sharedOp (decode3 (opcode 3 y 7) b1 b2) = .restart (BitVec.ofNat 16 (8 * y.toNat)) := by
  revert y
  refine forall_field_of_forall_lt fun n hn => ?_
  interval_cases n <;> rfl

theorem callAbsolute_eq (n : Word) (s : State) : callAbsolute n s = finishAt n 6 (pushed (s.pc + 3) s) := by
  rw [callAbsolute, State.jump_eq_finishAt, State.pushWord_eq_pushed]

theorem callIf_eq (cc : BitVec 2) (n : Word) (s : State) :
    callIf (condOfField cc) n s =
      if condition s cc then finishAt n 6 (pushed (s.pc + 3) s) else finish 3 3 s := by
  rw [callIf, ite_jump_retire_eq, State.pushWord_eq_pushed]

theorem restart_eq (target : Word) (s : State) :
    restart target s = finishAt target 4 (pushed (s.pc + 1) s) := by
  rw [restart, State.jump_eq_finishAt, State.pushWord_eq_pushed]

theorem returnIf_eq (cc : BitVec 2) (s : State) :
    returnIf (condOfField cc) s =
      if condition s cc then finishAt (popped s) 5 { s with sp := s.sp + 2 } else finish 1 2 s := by
  rw [returnIf, ite_jump_retire_eq]
  rfl

/-- Settles O30: the field selects the condition or the restart's target; calls and restarts jump from the state with
the return address pushed, returns from the one with it popped. -/
theorem callsAndReturns : Obligations.CallsAndReturns := by
  unfold Obligations.CallsAndReturns
  refine ⟨fun cc y b1 b2 s => ?_, fun cc b1 b2 s => ?_⟩
  all_goals obtain ⟨-, hcall, hret, -⟩ := sharedOp_conditional cc b1 b2
  · have habs : sharedOp (decode3 0xCD b1 b2) = .callAbsolute (imm16 b1 b2) := rfl
    refine ⟨?_, ?_, ?_⟩
    · rw [exec_eq_run habs, SharedOp.run, callAbsolute_eq]
    · rw [exec_eq_run hcall, SharedOp.run, callIf_eq]
    · rw [exec_eq_run (sharedOp_restart y b1 b2), SharedOp.run, restart_eq]
  · refine ⟨exec_eq_finishAt rfl, ?_, exec_eq_finishAt rfl⟩
    rw [exec_eq_run hret, SharedOp.run, returnIf_eq]

end Sys2Proof.Machine
end

section
/-! PROOFS. System instructions and the delay of EI (spec 46_system.md R215 to R220, 60_exceptions.md R230): what each
shared operation does to the CPU's control state, and the enable that EI leaves pending taken over by the next
instruction. -/

namespace Sys2Proof.Machine

/-! ### The control part of a state -/

/-- IME and the pending enable, the run state, the fault record, the cycle counter and the parameters (R32 to R35,
R55). -/
structure ControlPart where
  ime : Bool
  imePending : Bool
  run : RunState
  fault : Option Fault
  cycle : Nat
  eiDelay : Bool
  bootRom : Option (Vector Byte 256)

/-- The control part of a state. -/
def State.control (s : State) : ControlPart where
  ime := s.ime
  imePending := s.imePending
  run := s.run
  fault := s.fault
  cycle := s.cycle
  eiDelay := s.eiDelay
  bootRom := s.bootRom

/-- What the end of an instruction does to the control part (R217, R230). -/
def ControlPart.promote (c : ControlPart) : ControlPart :=
  { c with ime := c.ime || (c.eiDelay && c.imePending), imePending := c.imePending && !c.eiDelay }

@[simp] theorem State.retire_control (length cycles : Nat) (s : State) :
    (s.retire length cycles).control = s.control.promote := by
  rw [State.retire_eq_finish]
  rfl

@[simp] theorem State.jump_control (target : Word) (cycles : Nat) (s : State) :
    (s.jump target cycles).control = s.control.promote := by
  rw [State.jump_eq_finishAt]
  rfl

/-! ### Operand writes leave the control part -/

@[simp] theorem State.setReg_control (r : Reg8) (v : Byte) (s : State) : (s.setReg r v).control = s.control := rfl

@[simp] theorem State.setHl_control (v : Word) (s : State) : (s.setHl v).control = s.control := rfl

@[simp] theorem State.setSp_control (v : Word) (s : State) : (s.setSp v).control = s.control := rfl

@[simp] theorem State.dropWord_control (s : State) : s.dropWord.control = s.control := rfl

@[simp] theorem State.setFlags_control {w : Nat} (sel : Selector) (r : AluResult w) (s : State) :
    (s.setFlags sel r).control = s.control := rfl

@[simp] theorem State.busWrite_control (a : Word) (v : Byte) (s : State) : (s.busWrite a v).control = s.control := by
  simp [State.control]

@[simp] theorem State.busWrite16_control (a v : Word) (s : State) : (s.busWrite16 a v).control = s.control := by
  simp [State.busWrite16]

@[simp] theorem State.pushWord_control (v : Word) (s : State) : (s.pushWord v).control = s.control := by
  simp [State.pushWord]

@[simp] theorem State.writeR8_control (o : R8) (v : Byte) (s : State) : (s.writeR8 o v).control = s.control := by
  cases o <;> simp [State.writeR8]

@[simp] theorem State.writeR16_control (o : R16) (v : Word) (s : State) : (s.writeR16 o v).control = s.control := by
  cases o <;> rfl

@[simp] theorem State.writeR16Stk_control (o : R16Stk) (v : Word) (s : State) :
    (s.writeR16Stk o v).control = s.control := by
  cases o <;> rfl

@[simp] theorem State.indUpdate_control (p : IndAddr) (s : State) : (s.indUpdate p).control = s.control := by
  cases p <;> rfl

@[simp] theorem State.aluFinish_control (k : AluOp) (r : AluResult 8) (s : State) :
    (s.aluFinish k r).control = s.control := by
  cases k <;> rfl

/-! ### What a shared operation does to the control part -/

/-- The control part after a shared operation at `pc`: EI, STOP and an illegal byte take no pending enable over
(R217, R219, R220), and every other operation ends with doing so (R230). -/
def SharedOp.control (op : SharedOp) (pc : Word) (c : ControlPart) : ControlPart :=
  match op with
  | .enableInterrupts => if c.eiDelay then { c with imePending := true } else { c with ime := true }
  | .disableInterrupts => { c with ime := false, imePending := false : ControlPart }.promote
  | .returnInterrupt => { c with ime := true, imePending := false : ControlPart }.promote
  | .haltCpu => { c with run := .halted : ControlPart }.promote
  | .stopCpu => { c with fault := c.fault <|> some (.stopUnimplemented pc) }
  | .illegalByte b => { c with fault := c.fault <|> some (.illegalOpcode pc b) }
  | _ => c.promote

theorem secondTable_control (op2 : Byte) (s : State) : (secondTable op2 s).control = s.control.promote := by
  unfold secondTable
  match (fieldX op2).toNat with
  | 0 | 1 | 2 | _ + 3 => exact (State.retire_control _ _ _).trans (congrArg ControlPart.promote (by simp))

theorem enableInterrupts_eq (s : State) :
    enableInterrupts s =
      if s.eiDelay then { s with imePending := true, pc := s.pc + 1, nextActive := s.cycle + 1 }
      else { s with ime := true, pc := s.pc + 1, nextActive := s.cycle + 1 } := by
  unfold enableInterrupts
  split <;> rfl

theorem enableInterrupts_control (s : State) :
    (enableInterrupts s).control =
      if s.eiDelay then { s.control with imePending := true } else { s.control with ime := true } := by
  rw [enableInterrupts_eq]
  split <;> rfl

/-- Both ends of a conditional operation take the pending enable over. -/
theorem State.ite_jump_retire_control (c : Bool) {t s : State} (h : t.control = s.control) (target : Word)
    (extra length cycles : Nat) :
    (if c then t.jump target extra else s.retire length cycles).control = s.control.promote := by
  cases c
  · exact State.retire_control length cycles s
  · exact (State.jump_control target extra t).trans (congrArg ControlPart.promote h)

theorem SharedOp.run_control (op : SharedOp) (s : State) : (op.run s).control = op.control s.pc s.control := by
  cases op with
  | loadR8 | loadN8 | loadIndirect | storeIndirect | loadAbsolute | storeAbsolute | loadHighN8 | storeHighN8
  | loadHighC | storeHighC | loadR16 | storeSp | loadSpHl | pushR16 | popR16 | aluR8 | aluN8 | incrementR8 | decrementR8
  | decimalAdjust | complementA | setCarry | complementCarry | addHl | incrementR16 | decrementR16 | addSp | loadHlSp
  | rotateA | rotateR8 | testR8 | resetR8 | setR8 | noOperation =>
    exact (State.retire_control _ _ _).trans (congrArg ControlPart.promote (by simp))
  | jumpAbsolute | jumpHl | jumpRelative | callAbsolute | returnCpu | restart =>
    exact (State.jump_control _ _ _).trans (congrArg ControlPart.promote (by simp))
  | jumpAbsoluteIf | jumpRelativeIf | callIf | returnIf => exact State.ite_jump_retire_control _ (by simp) _ _ _ _
  | secondTable op2 => exact secondTable_control op2 s
  | enableInterrupts => exact enableInterrupts_control s
  | disableInterrupts | haltCpu => exact State.retire_control _ _ _
  | returnInterrupt => exact State.jump_control _ _ _
  | stopCpu | illegalByte => rfl

theorem exec_control {i : Instr} {s t : State} (h : exec i s = .next t) :
    t.control = (sharedOp i).control s.pc s.control := by
  rw [exec_sharedOp, Host.Outcome.next.injEq] at h
  rw [← h, SharedOp.run_control]

/-! ### NOP, DI, EI and HALT (R215 to R218) -/

/-- Settles O31: NOP, DI and HALT end as `finish` does from the state each has made, and EI has an end of its own. -/
theorem systemInstructions : Obligations.SystemInstructions := by
  unfold Obligations.SystemInstructions
  intro b1 b2 s
  have hei : sharedOp (decode3 0xFB b1 b2) = .enableInterrupts := rfl
  refine ⟨exec_eq_finish rfl, exec_eq_finish rfl, ?_, exec_eq_finish rfl⟩
  rw [exec_eq_run hei, SharedOp.run, enableInterrupts_eq]

/-! ### The delay of EI (R217) -/

/-- Whether an operation leaves IME 1 where an enable is pending: DI cancels the enable, and EI, STOP and an illegal
byte leave it pending. -/
def SharedOp.takesEnable (op : SharedOp) : Bool :=
  match op with
  | .disableInterrupts | .enableInterrupts | .stopCpu | .illegalByte _ => false
  | _ => true

theorem sharedOp_takesEnable {i : Instr} (hdi : i ≠ .di) (hei : i ≠ .ei) (hstop : i ≠ .stop)
    (hlegal : ∀ op, i ≠ .illegal op) : (sharedOp i).takesEnable = true := by
  cases i with
  | di => exact absurd rfl hdi
  | ei => exact absurd rfl hei
  | stop => exact absurd rfl hstop
  | illegal op => exact absurd rfl (hlegal op)
  | _ => rfl

/-- The pending enable is taken over: RETI has set IME itself, and the others let the instruction's end set it. -/
theorem SharedOp.control_of_takesEnable {op : SharedOp} {c : ControlPart} (hop : op.takesEnable = true)
    (hdelay : c.eiDelay = true) (hpending : c.imePending = true) (pc : Word) :
    (op.control pc c).ime = true ∧ (op.control pc c).imePending = false := by
  have hplain : c.promote.ime = true ∧ c.promote.imePending = false := by
    simp [ControlPart.promote, hdelay, hpending]
  cases op with
  | disableInterrupts | enableInterrupts | stopCpu | illegalByte => cases hop
  | returnInterrupt => exact ⟨rfl, rfl⟩
  | _ => exact hplain

/-- The instruction after an EI whose enable is pending. -/
theorem exec_of_pendingEnable {i : Instr} {t u : State} (hdelay : t.eiDelay = true) (hpending : t.imePending = true)
    (h : exec i t = .next u) :
    (i = .di → u.ime = false ∧ u.imePending = false) ∧
    (i = .ei → u.ime = t.ime ∧ u.imePending = true) ∧
    (i = .stop ∨ (∃ op, i = .illegal op) → u.ime = t.ime ∧ u.imePending = true) ∧
    (i ≠ .di → i ≠ .ei → i ≠ .stop → (∀ op, i ≠ .illegal op) → u.ime = true ∧ u.imePending = false) := by
  have hu := exec_control h
  have hime := congrArg ControlPart.ime hu
  have himePending := congrArg ControlPart.imePending hu
  refine ⟨?_, ?_, ?_, fun hdi hei hstop hlegal => ?_⟩
  · rintro rfl
    exact ⟨hime.trans (Bool.and_false _), himePending⟩
  · rintro rfl
    have hei : (sharedOp .ei).control t.pc t.control = { t.control with imePending := true } := if_pos hdelay
    rw [hei] at hime himePending
    exact ⟨hime, himePending⟩
  · rintro (rfl | ⟨op, rfl⟩)
    · exact ⟨hime, himePending.trans hpending⟩
    · exact ⟨hime, himePending.trans hpending⟩
  · obtain ⟨h1, h0⟩ :=
      SharedOp.control_of_takesEnable (c := t.control) (sharedOp_takesEnable hdi hei hstop hlegal) hdelay hpending t.pc
    exact ⟨hime.trans h1, himePending.trans h0⟩

/-- Settles O32: EI sets IME or the pending enable by `EI_DELAY`, and of the instructions that may follow it only DI,
EI and those that raise a fault keep from taking the enable over. -/
theorem eiDelay : Obligations.EiDelay := by
  unfold Obligations.EiDelay
  intro b1 b2 s
  have hei : sharedOp (decode3 0xFB b1 b2) = .enableInterrupts := rfl
  refine ⟨enableInterrupts s, exec_eq_run hei s, fun hdelay => ?_, fun hdelay => ?_⟩
  · rw [enableInterrupts_eq, hdelay]
    rfl
  · have hcontrol : (enableInterrupts s).control = { s.control with imePending := true } :=
      (enableInterrupts_control s).trans (if_pos hdelay)
    have hime : (enableInterrupts s).ime = s.ime := congrArg ControlPart.ime hcontrol
    have hpending : (enableInterrupts s).imePending = true := congrArg ControlPart.imePending hcontrol
    have hdelay' : (enableInterrupts s).eiDelay = true := (congrArg ControlPart.eiDelay hcontrol).trans hdelay
    exact ⟨hime, hpending, fun i u h => hime ▸ exec_of_pendingEnable hdelay' hpending h⟩

end Sys2Proof.Machine
end

section
/-! PROOFS. What the CPU does at a cycle (spec 60_exceptions.md R225, R227 to R229): nothing while it is idle, else the
service of the lowest pending line or the instruction at PC, and the wake-up of a halted CPU by either. -/

namespace Sys2Proof.Machine

open Sys2Proof.Rules

/-! ### The lowest pending line (R225) -/

theorem lowestLine_lt_five (p : Byte) : lowestLine p < 5 := by
  unfold lowestLine
  split_ifs <;> decide

theorem lowestLine_le {p : Byte} {j : Nat} (hj : j < 5) (h : p.getLsbD j = true) : lowestLine p ≤ j := by
  unfold lowestLine
  interval_cases j <;> split_ifs <;> omega

theorem getLsbD_lowestLine {p : Byte} {j : Nat} (hj : j < 5) (h : p.getLsbD j = true) :
    p.getLsbD (lowestLine p) = true := by
  unfold lowestLine
  interval_cases j <;> split_ifs <;> assumption

/-- Of IE and IF only the five lines count. -/
theorem State.getLsbD_pending (s : State) {j : Nat} (hj : j < 8) :
    s.pending.getLsbD j = ((s.ie &&& s.iflag).getLsbD j && decide (j < 5)) := by
  have hmask : (0x1F : Byte).getLsbD j = decide (j < 5) := by interval_cases j <;> rfl
  rw [State.pending, BitVec.getLsbD_and, hmask]

/-- A pending set that is not empty has one of the five lines. -/
theorem State.exists_line_of_pending {s : State} (h : s.pending ≠ 0) : ∃ j < 5, s.pending.getLsbD j = true := by
  by_contra! hnone
  refine h (BitVec.eq_of_getLsbD_eq fun j hj => ?_)
  have hzero : (0 : Byte).getLsbD j = false := BitVec.getLsbD_zero
  rw [hzero]
  by_cases hj5 : j < 5
  · exact Bool.eq_false_iff.mpr (hnone j hj5)
  · rw [s.getLsbD_pending hj, decide_eq_false hj5, Bool.and_false]

theorem State.getLsbD_pending_line (s : State) {j : Nat} (hj : j < 5) :
    s.pending.getLsbD j = (s.ie &&& s.iflag).getLsbD j := by
  rw [s.getLsbD_pending (by omega), decide_eq_true hj, Bool.and_true]

theorem State.lowestLine_pending {s : State} (h : s.pending ≠ 0) :
    (s.ie &&& s.iflag).getLsbD (lowestLine s.pending) = true ∧
      ∀ j, j < lowestLine s.pending → (s.ie &&& s.iflag).getLsbD j = false := by
  obtain ⟨k, hk, hset⟩ := State.exists_line_of_pending h
  refine ⟨?_, fun j hj => ?_⟩
  · rw [← s.getLsbD_pending_line (lowestLine_lt_five _)]
    exact getLsbD_lowestLine hk hset
  · have hj5 : j < 5 := hj.trans (lowestLine_lt_five _)
    rw [← s.getLsbD_pending_line hj5, Bool.eq_false_iff]
    exact fun hbit => absurd (lowestLine_le hj5 hbit) hj.not_ge

/-! ### The CPU's step (R227 to R229) -/

theorem State.idle_eq_true_iff (s : State) :
    s.idle = true ↔ s.run = .halted ∧ s.pending = 0 ∨ s.run = .running ∧ s.cycle < s.nextActive := by
  unfold State.idle
  cases s.run <;> simp

@[simp] theorem State.wake_ime (s : State) : s.wake.ime = s.ime := by
  unfold State.wake
  split <;> rfl

@[simp] theorem State.wake_pending (s : State) : s.wake.pending = s.pending := by
  unfold State.wake
  split <;> rfl

@[simp] theorem pushed_cycle (v : Word) (s : State) : (pushed v s).cycle = s.cycle := by
  simp [pushed]

@[simp] theorem pushed_run (v : Word) (s : State) : (pushed v s).run = s.run := by
  simp [pushed]

theorem State.spend_of_cycle {s : State} {n : Nat} (h : s.cycle = n) (cycles : Nat) :
    s.spend cycles = { s with nextActive := n + cycles } := by
  subst h
  rfl

/-- The service of the lowest pending line, with the push in the words of the statements (R229). -/
theorem State.serviceInterrupt_eq (s : State) :
    s.serviceInterrupt =
      { pushed s.pc { s with
          ime := false, imePending := false, iflag := s.iflag &&& ~~~(1#8 <<< lowestLine s.pending) } with
        pc := BitVec.ofNat 16 (0x40 + 8 * lowestLine s.pending), nextActive := s.cycle + 5 } := by
  rw [State.serviceInterrupt, State.pushWord_eq_pushed]
  exact State.spend_of_cycle ((State.setPc_cycle _ _).trans (pushed_cycle _ _)) Config.intServiceCycles

/-- A cycle in which the CPU is idle is the timer's and the LCD controller's steps alone (R221, R227). -/
theorem step_of_idle {s : State} (h : s.NoFault) (hidle : (deviceStep s).idle = true) :
    step s = .next (deviceStep s).nextCycle := by
  have hs : s.fault = none := h
  simp [step, cycleStep, cpuStep, hs, hidle]

theorem cpuStep_of_service {s : State} (hidle : s.idle = false) (hime : s.ime = true) (hpending : s.pending ≠ 0) :
    cpuStep s = .next s.wake.serviceInterrupt := by
  have hinterrupted : s.wake.interrupted = true := by
    rw [State.interrupted, State.wake_ime, State.wake_pending, hime, Bool.true_and]
    exact bne_iff_ne.mpr hpending
  simp [cpuStep, hidle, hinterrupted]

theorem cpuStep_of_fetch {s : State} (hidle : s.idle = false) (h : s.ime = false ∨ s.pending = 0) :
    cpuStep s = exec s.wake.fetch s.wake := by
  have hnot : s.wake.interrupted = false := by
    obtain hime | hpending := h
    · simp [State.interrupted, hime]
    · simp [State.interrupted, hpending]
  simp [cpuStep, hidle, hnot]

/-! ### Idle and halted (R218, R242, R280) -/

theorem State.idle_of_halted {s : State} (hrun : s.run = .halted) (hpending : s.pending ≠ 0) : s.idle = false := by
  rw [State.idle, hrun]
  exact beq_eq_false_iff_ne.mpr hpending

theorem State.wake_of_halted {s : State} (hrun : s.run = .halted) :
    s.wake = { s with run := .running, nextActive := s.cycle } := by
  simp [State.wake, hrun]

/-- Settles O4: idle is what the first clause names; a halted CPU with a line pending is not idle, so it acts from the
state in which it is awake, by IME on the lowest line or on the instruction at PC. -/
theorem idleAndHaltedCycles : Obligations.IdleAndHaltedCycles := by
  unfold Obligations.IdleAndHaltedCycles
  refine ⟨fun s h hd => step_of_idle h ((deviceStep s).idle_eq_true_iff.mpr hd), fun s hrun hpending => ?_⟩
  have hidle := State.idle_of_halted hrun hpending
  have hwake := State.wake_of_halted hrun
  refine ⟨hidle, hwake, fun hime => ?_, fun hime => ?_⟩
  · rw [cpuStep_of_fetch hidle (.inl hime), hwake]
  · obtain ⟨hset, hlowest⟩ := State.lowestLine_pending hpending
    refine ⟨lowestLine s.pending, lowestLine_lt_five _, hset, hlowest, ?_, pushed_run _ _⟩
    rw [cpuStep_of_service hidle hime hpending, hwake, State.serviceInterrupt_eq]
    rfl

end Sys2Proof.Machine
end

section
/-! PROOFS. The machine right after reset (spec 70_reset_and_hazards.md R272). -/

namespace Sys2Proof.Machine

theorem Image.get_blank (x : Fin Config.lcdWidth) (y : Fin Config.lcdHeight) : (Image.blank.get y).get x = 0 := by
  simp [Image.blank, Vector.get_eq_getElem]

section
variable (rom : Option (Vector Byte 256)) (delay : Bool) (cart : Cartridge) (mem : Mem)

theorem State.resetWith_images (x : Fin Config.lcdWidth) (y : Fin Config.lcdHeight) :
    ((State.resetWith rom delay cart mem).lcd.frame.get y).get x = 0 ∧
      (State.resetWith rom delay cart mem).screen x y = 0 := ⟨Image.get_blank x y, Image.get_blank x y⟩

theorem State.resetWith_coreInv (h : mem.wf = true) : (State.resetWith rom delay cart mem).CoreInv where
  memory := h
  flags := by simp [State.resetWith, Regs.reset]
  pending _ := rfl
  overlay hon := hon
  dmaIndex := ⟨Nat.zero_le _, fun hactive => by cases hactive⟩
  dmaSource := show lo8 0 = 0 by decide

/-- At reset the display is on and has not stepped, so what is said of a display that is off or has stepped is said of
nothing. -/
theorem State.resetWith_displayInv : (State.resetWith rom delay cart mem).DisplayInv := by
  have hon : (State.resetWith rom delay cart mem).lcd.power ≠ .off := by simp [State.resetWith, Lcd.reset]
  have hfresh : ¬(State.resetWith rom delay cart mem).stepped := fun h => Nat.lt_irrefl 0 h.2
  exact
    { origin := Nat.le_refl 0
      power := by simp [State.resetWith, Lcd.reset]
      off := fun h => absurd h hon
      fresh := fun _ _ => ⟨rfl, rfl⟩
      line := fun h => absurd h hfresh
      mode := fun h => absurd h hfresh
      compare := fun h => absurd h (not_or.mpr ⟨hon, hfresh⟩)
      window := Nat.zero_le _
      windowLines := fun h => absurd h hfresh }

end

/-- Settles O1: every field is the one `resetWith` writes, and the two images are blank. -/
theorem resetValues : Obligations.ResetValues := by
  unfold Obligations.ResetValues
  intro rom delay cart mem
  have hregs : ∀ r : Reg8, (State.resetWith rom delay cart mem).reg r = 0 := fun r => by cases r <;> rfl
  have himages := State.resetWith_images rom delay cart mem
  exact ⟨hregs, rfl, rfl, rfl, rfl,
    rfl, rfl, rfl, rfl, rfl,
    rfl, rfl, rfl, rfl,
    rfl, rfl, rfl, rfl, rfl, rfl,
    rfl, rfl, rfl, rfl, rfl, rfl,
    rfl, rfl, rfl, rfl,
    himages,
    rfl, rfl, rfl, rfl,
    rfl, rfl, rfl, rfl, rfl⟩

/-- Settles O2: the CPU's and the display's parts hold of the reset values, and the CPU acts at once. -/
theorem resetMeetsInvariant : Obligations.ResetMeetsInvariant := by
  unfold Obligations.ResetMeetsInvariant
  intro rom delay cart mem h
  exact ⟨State.resetWith_coreInv rom delay cart mem h, State.resetWith_displayInv rom delay cart mem, Nat.zero_le _⟩

end Sys2Proof.Machine
end

section
/-! PROOFS. The LCD controller between lines (spec 60_exceptions.md R249 to R254, R270): entering a mode, comparing LY
with LYC, turning the display off and on, and what the controller does at each place of a frame. -/

namespace Sys2Proof.Machine

/-! ### Mode entry and comparison (R251, R252) -/

/-- STAT bits 3, 4 and 5 enable the requests of modes 0, 1 and 2, and none that of mode 3 (R251). -/
theorem modeEnabled_eq_true_iff (stat : Byte) (m : BitVec 2) :
    modeEnabled stat m = true ↔ m ≠ 3 ∧ stat.getLsbD (3 + m.toNat) = true := by
  revert m
  refine forall_field_of_forall_lt fun n hn => ?_
  interval_cases n <;> simp [modeEnabled]

theorem State.enterMode_eq (m : BitVec 2) (s : State) :
    s.enterMode m =
      { s with
        lcd := { s.lcd with stat := (s.lcd.stat &&& 0xFC) ||| m.setWidth 8 }
        iflag := if m ≠ 3 ∧ s.lcd.stat.getLsbD (3 + m.toNat) = true then s.iflag ||| 2 else s.iflag } := by
  simp only [← modeEnabled_eq_true_iff]
  unfold State.enterMode
  split <;> rfl

theorem withBit_two (v : Byte) (b : Bool) : withBit v 2 b = (v &&& 0xFB) ||| (if b then 4 else 0) := by
  cases b <;> rfl

theorem State.lycCompare_eq (s : State) :
    s.lycCompare =
      { s with
        lcd := { s.lcd with stat := (s.lcd.stat &&& 0xFB) ||| (if s.lcd.ly = s.lcd.lyc then 4 else 0) }
        iflag := if s.lcd.ly = s.lcd.lyc ∧ s.lcd.stat.getLsbD 6 = true then s.iflag ||| 2 else s.iflag } := by
  unfold State.lycCompare
  simp only [withBit_two, Bool.and_eq_true, decide_eq_true_eq]
  split <;> rfl

/-- Settles O48: the enable of the mode is the STAT bit beside the mode's number, and the comparison's is bit 6. -/
theorem modeEntryAndComparison : Obligations.ModeEntryAndComparison := by
  unfold Obligations.ModeEntryAndComparison
  exact fun s m => ⟨s.enterMode_eq m, s.lycCompare_eq⟩

/-! ### Turning the display off and on (R253, R254) -/

/-- High RAM starts above the I/O registers (R63, R69). -/
theorem inHighRam_below {n : Nat} (h : n < 0xFF80) : inHighRam n = false := by
  rw [Bool.eq_false_iff, Ne, inHighRam_iff]
  omega

/-- A write to a register of the LCD controller reaches it alone (R63). -/
theorem State.busWrite_lcdRegister (v : Byte) (s : State) {a : Word} (h : 0xFF40 ≤ a.toNat) (h' : a.toNat ≤ 0xFF4B) :
    s.busWrite a v = s.lcdRegWrite a.toNat v := by
  rw [State.busWrite_register v s (by omega) (inHighRam_below (by omega)), if_neg (by omega), if_neg (by omega),
    if_neg (by omega), if_neg (by omega), if_neg (by omega)]

theorem State.busWrite_lcdc (v : Byte) (s : State) : s.busWrite 0xFF40 v = s.writeLcdc v :=
  State.busWrite_lcdRegister v s (by decide) (by decide)

theorem statWithMode_zero (stat : Byte) : statWithMode stat 0 = stat &&& 0xFC := by
  simp [statWithMode]

/-- Turning the display off clears LY and the mode and compares (R253). -/
theorem State.writeLcdc_clear {s : State} {v : Byte} (h : s.lcd.lcdc.getLsbD 7 = true) (hv : v.getLsbD 7 = false) :
    s.writeLcdc v =
      State.lycCompare
        { s with lcd := { s.lcd with lcdc := v, power := .off, ly := 0, stat := s.lcd.stat &&& 0xFC } } := by
  rw [State.writeLcdc_off (by rw [h, hv]; rfl), ← statWithMode_zero]
  rfl

/-- The comparison requests line 1 at most, so VBlank's request stays as it was (R252). -/
theorem State.lycCompare_vblank (s : State) : s.lycCompare.iflag.getLsbD 0 = s.iflag.getLsbD 0 := by
  rw [State.lycCompare_eq]
  dsimp only
  split <;> simp

/-- Settles O49: bit 7 before and after the write decides between turning off, which compares and no more, turning on,
and storing the byte. -/
theorem displayOffAndOn : Obligations.DisplayOffAndOn := by
  unfold Obligations.DisplayOffAndOn
  intro s v
  rw [State.busWrite_lcdc]
  refine ⟨fun h hv => ?_, fun h hv => ?_, State.writeLcdc_same⟩
  · rw [State.writeLcdc_clear h hv]
    refine ⟨rfl, ?_, ?_, State.lycCompare_vblank _⟩ <;> rw [State.lycCompare_eq]
  · exact State.writeLcdc_on (by rw [h, hv]; rfl)

/-! ### The places of a frame (R249, R250) -/

theorem State.startLine_first (s : State) :
    s.startLine 0 = State.enterMode 2 (s.setLy 0).lycCompare.clearWinLine := rfl

theorem State.startLine_visible {ln : Nat} (s : State) (h : 0 < ln) (h' : ln < 144) :
    s.startLine ln = State.enterMode 2 (s.setLy ln).lycCompare := by
  simp [State.startLine, Config.visibleLines, h.ne', h', h'.ne]

theorem State.startLine_vblank (s : State) :
    s.startLine 144 = State.enterMode 1 (s.setLy 144).lycCompare.finishFrame := rfl

theorem State.startLine_below {ln : Nat} (s : State) (h : 144 < ln) : s.startLine ln = (s.setLy ln).lycCompare := by
  simp [State.startLine, Config.visibleLines, h.ne', h.le, Nat.ne_of_gt (Nat.zero_lt_of_lt h)]

/-- The line of the frame a cycle lies in (R250). -/
def State.frameLine (s : State) : Nat := s.framePlace / 114

/-- The cycle's place in its line (R250). -/
def State.lineCycle (s : State) : Nat := s.framePlace % 114

theorem State.ppuStep_eq (s : State) :
    s.ppuStep =
      if s.lineCycle = 0 then s.startLine s.frameLine
      else if s.frameLine < 144 ∧ s.lineCycle = 20 then (s.renderLine s.frameLine).enterMode 3
      else if s.frameLine < 144 ∧ s.lineCycle = 63 then s.enterMode 0
      else s := rfl

theorem State.ppuStep_lineStart {s : State} (h : s.lineCycle = 0) : s.ppuStep = s.startLine s.frameLine := if_pos h

theorem State.ppuStep_transfer {s : State} (hline : s.frameLine < 144) (h : s.lineCycle = 20) :
    s.ppuStep = (s.renderLine s.frameLine).enterMode 3 := by
  rw [State.ppuStep_eq, if_neg (by omega), if_pos ⟨hline, h⟩]

theorem State.ppuStep_hblank {s : State} (hline : s.frameLine < 144) (h : s.lineCycle = 63) :
    s.ppuStep = s.enterMode 0 := by
  rw [State.ppuStep_eq, if_neg (by omega), if_neg (by omega), if_pos ⟨hline, h⟩]

theorem State.ppuStep_between {s : State} (h : s.lineCycle ≠ 0)
    (h' : s.lineCycle ≠ 20 ∧ s.lineCycle ≠ 63 ∨ 144 ≤ s.frameLine) : s.ppuStep = s := by
  rw [State.ppuStep_eq, if_neg h, if_neg (by omega), if_neg (by omega)]

theorem lcdStep_off {s : State} (h : s.lcd.power = .off) : lcdStep s = dmaStep s := by
  obtain ⟨-, e⟩ | ⟨hon, -⟩ := lcdStep_cases s
  · exact e
  · rw [h] at hon
    cases hon

theorem lcdStep_on {s : State} (h : s.lcd.power = .on) : lcdStep s = (dmaStep s).ppuStep := by
  obtain ⟨hoff, -⟩ | ⟨-, e⟩ := lcdStep_cases s
  · rw [h] at hoff
    cases hoff
  · exact e

/-- The frame that V-blank finishes is the one built so far, for a comparison changes STAT and IF alone (R250). -/
theorem State.finishFrame_lycCompare (ln : Nat) (s : State) :
    (s.setLy ln).lycCompare.finishFrame =
      { (s.setLy ln).lycCompare with
        lcd := { (s.setLy ln).lycCompare.lcd with
          latestImage := s.lcd.frame, framesCompleted := s.lcd.framesCompleted + 1 }
        iflag := (s.setLy ln).lycCompare.iflag ||| 1 } := by
  rw [State.lycCompare_eq]
  rfl

/-- Settles O50: the line's first cycle starts the line, by which of the four kinds it is, and two cycles of a visible
line are all the others at which the state machine acts. -/
theorem frameTiming : Obligations.FrameTiming := by
  unfold Obligations.FrameTiming
  intro s
  refine ⟨fun hc hln => ?_, fun hc hln hln' => ?_, fun hc hln => ?_, fun hc hln => ?_, State.ppuStep_transfer,
    State.ppuStep_hblank, State.ppuStep_between, lcdStep_off, lcdStep_on⟩
  all_goals rw [State.ppuStep_lineStart hc]
  · rw [show s.frameLine = 0 from hln, hln]
    exact s.startLine_first
  · exact s.startLine_visible hln hln'
  · rw [show s.frameLine = 144 from hln, hln, s.startLine_vblank]
    exact congrArg (State.enterMode 1) (s.finishFrame_lycCompare 144)
  · exact s.startLine_below hln

/-! ### The images (R270) -/

/-- Starting a line changes the LCD controller and IF, and the images only on line 144 (R250). -/
theorem State.startLine_changes (ln : Nat) (s : State) :
    ∃ l f, s.startLine ln = { s with lcd := l, iflag := f } ∧
      (l.latestImage = s.lcd.latestImage ∧ l.framesCompleted = s.lcd.framesCompleted ∨
        ln = 144 ∧ l.latestImage = s.lcd.frame ∧ l.framesCompleted = s.lcd.framesCompleted + 1) := by
  obtain rfl | ⟨h, h'⟩ | rfl | h : ln = 0 ∨ (0 < ln ∧ ln < 144) ∨ ln = 144 ∨ 144 < ln := by omega
  · rw [s.startLine_first, State.enterMode_eq, State.lycCompare_eq]
    exact ⟨_, _, rfl, .inl ⟨rfl, rfl⟩⟩
  · rw [s.startLine_visible h h', State.enterMode_eq, State.lycCompare_eq]
    exact ⟨_, _, rfl, .inl ⟨rfl, rfl⟩⟩
  · rw [s.startLine_vblank, State.enterMode_eq, State.lycCompare_eq]
    exact ⟨_, _, rfl, .inr ⟨rfl, rfl, rfl⟩⟩
  · rw [s.startLine_below h, State.lycCompare_eq]
    exact ⟨_, _, rfl, .inl ⟨rfl, rfl⟩⟩

/-- The state machine's step changes the LCD controller and IF, and the images only at the start of V-blank, when the
finished frame is shown (R250, R270). -/
theorem State.ppuStep_changes (s : State) :
    ∃ l f, s.ppuStep = { s with lcd := l, iflag := f } ∧
      (l.latestImage = s.lcd.latestImage ∧ l.framesCompleted = s.lcd.framesCompleted ∨
        s.framePlace = 144 * 114 ∧ l.latestImage = s.lcd.frame ∧ l.framesCompleted = s.lcd.framesCompleted + 1) := by
  rw [State.ppuStep_eq]
  split_ifs with hstart
  · obtain ⟨l, f, e, himages⟩ := s.startLine_changes s.frameLine
    refine ⟨l, f, e, himages.imp_right fun ⟨hline, himage⟩ => ⟨?_, himage⟩⟩
    have hdiv := Nat.div_add_mod' s.framePlace 114
    rwa [show s.framePlace / 114 = 144 from hline, show s.framePlace % 114 = 0 from hstart, Nat.add_zero,
      eq_comm] at hdiv
  · rw [State.enterMode_eq]
    exact ⟨_, _, rfl, .inl ⟨rfl, rfl⟩⟩
  · rw [State.enterMode_eq]
    exact ⟨_, _, rfl, .inl ⟨rfl, rfl⟩⟩
  · exact ⟨_, _, rfl, .inl ⟨rfl, rfl⟩⟩

end Sys2Proof.Machine
end

section
/-! PROOFS. The cycle of the whole machine (spec 60_exceptions.md R221, R227 to R230): what a step keeps outside the CPU,
the CPU's choice between service and fetch, a dead halt, and the run to a target. -/

namespace Sys2Proof.Machine

open Sys2Proof.Rules

/-! ### The devices' steps (R221) -/

theorem timerStep_changes (s : State) : ∃ x f, timerStep s = { s with timer := x, iflag := f } := by
  obtain ⟨tima, f, e⟩ := s.timerEdge_changes (s.timer.div16 + Config.divIncrement) s.timer.tac
  exact ⟨_, f, e⟩

theorem dmaStep_changes (s : State) : ∃ d m, dmaStep s = { s with dma := d, mem := m } := by
  unfold dmaStep
  split <;> exact ⟨_, _, rfl⟩

/-- The devices' steps change the devices, IF and memory, and the images only at the start of V-blank, with the display
on (R250, R270). -/
theorem deviceStep_changes (s : State) :
    ∃ x l d f m, deviceStep s = { s with timer := x, lcd := l, dma := d, iflag := f, mem := m } ∧
      (l.latestImage = s.lcd.latestImage ∧ l.framesCompleted = s.lcd.framesCompleted ∨
        s.lcd.power = .on ∧ s.framePlace = 144 * 114 ∧
          l.latestImage = s.lcd.frame ∧ l.framesCompleted = s.lcd.framesCompleted + 1) := by
  obtain ⟨x, f, htimer⟩ := timerStep_changes s
  obtain ⟨d, m, hdma⟩ := dmaStep_changes (timerStep s)
  have hlcd : (timerStep s).lcd = s.lcd := by rw [htimer]
  obtain ⟨hoff, hstep⟩ | ⟨hon, hstep⟩ := lcdStep_cases (timerStep s)
  · refine ⟨x, s.lcd, d, f, m, hstep.trans (hdma.trans ?_), .inl ⟨rfl, rfl⟩⟩
    rw [htimer]
  · obtain ⟨l, g, hppu, himages⟩ := (dmaStep (timerStep s)).ppuStep_changes
    refine ⟨x, l, d, g, m, hstep.trans (hppu.trans ?_), ?_⟩
    · rw [hdma, htimer]
    · rw [hdma, htimer] at himages
      exact himages.imp_right fun h => ⟨hlcd ▸ hon, h⟩

@[simp] theorem deviceStep_ie (s : State) : (deviceStep s).ie = s.ie := by
  obtain ⟨x, l, d, f, m, e, -⟩ := deviceStep_changes s
  rw [e]

/-! ### What a step keeps outside the CPU -/

@[simp] theorem State.wake_devicePart (s : State) : s.wake.devicePart = s.devicePart := by
  unfold State.wake
  split <;> rfl

/-- What no bus write changes outside the CPU, no instruction and no service changes. -/
theorem Reaches.keeps {α : Type} {s t : State} (h : Reaches s t) (p : DevicePart → α)
    (hp : ∀ (a : Word) (v : Byte) (u : State), p (u.busWrite a v).devicePart = p u.devicePart) :
    p t.devicePart = p s.devicePart := by
  obtain ⟨ws, -, ht⟩ := h
  rw [ht]
  clear ht
  induction ws generalizing s with
  | nil => rfl
  | cons w ws ih => exact (ih (s := s.busWrite w.1 w.2)).trans (hp w.1 w.2 s)

/-- The devices' part with another IF. -/
def DevicePart.withIflag (f : Byte) (p : DevicePart) : DevicePart := { p with iflag := f }

/-- A step of an unfaulted machine is the devices' steps, with IF changed at most, then bus writes of the CPU, and the
cycle counted (R221, R227). -/
theorem step_reaches {s : State} (h : s.NoFault) :
    ∃ u t f, step s = .next t.nextCycle ∧ Reaches u t ∧
      u.devicePart = (deviceStep s).devicePart.withIflag f := by
  obtain ⟨-, e⟩ | ⟨-, -, e⟩ | ⟨-, -, e⟩ := step_cases h
  · exact ⟨_, _, _, e, .none rfl, rfl⟩
  · exact ⟨_, _, _, e, State.serviceInterrupt_reaches _,
      congrArg (DevicePart.withIflag _) (State.wake_devicePart _)⟩
  · exact ⟨_, _, _, e, SharedOp.run_reaches _ _, State.wake_devicePart _⟩

/-- Every cycle of an unfaulted machine ends in a next state, one cycle later (R221, R222). -/
theorem step_completes {s : State} (h : s.NoFault) :
    ∃ t, step s = .next t ∧ t.cycle = s.cycle + 1 ∧ t.eiDelay = s.eiDelay ∧ t.bootRom = s.bootRom := by
  obtain ⟨u, t, f, e, hr, hu⟩ := step_reaches h
  have hcycle := hr.keeps DevicePart.cycle State.busWrite_cycle
  have hdelay := hr.keeps DevicePart.eiDelay State.busWrite_eiDelay
  have hrom := hr.keeps DevicePart.bootRom State.busWrite_bootRom
  rw [hu] at hcycle hdelay hrom
  exact ⟨_, e, congrArg (· + 1) (hcycle.trans (deviceStep_cycle s)), hdelay.trans (deviceStep_eiDelay s),
    hrom.trans (deviceStep_bootRom s)⟩

/-- Settles O6: what follows the devices' steps is at most bus writes, which count no cycle and change no parameter. -/
theorem everyCycleCompletes : Obligations.EveryCycleCompletes := by
  unfold Obligations.EveryCycleCompletes
  exact fun s h => step_completes h

/-! ### The images change in the LCD controller's step alone (R270) -/

theorem State.lcdRegWrite_images (n : Nat) (v : Byte) (s : State) :
    (s.lcdRegWrite n v).lcd.latestImage = s.lcd.latestImage ∧
      (s.lcdRegWrite n v).lcd.framesCompleted = s.lcd.framesCompleted := by
  unfold State.lcdRegWrite
  split
  case h_1 =>
    obtain ⟨stat, ly, power, origin, f, e⟩ := s.writeLcdc_changes v
    rw [e]
    exact ⟨rfl, rfl⟩
  case h_5 =>
    obtain ⟨stat, f, e⟩ := State.lycCompare_changes { s with lcd := { s.lcd with lyc := v } }
    rw [State.writeLyc, e]
    exact ⟨rfl, rfl⟩
  all_goals exact ⟨rfl, rfl⟩

/-- No bus write changes an image or the frame count. -/
theorem State.busWrite_images (a : Word) (v : Byte) (s : State) :
    (s.busWrite a v).lcd.latestImage = s.lcd.latestImage ∧
      (s.busWrite a v).lcd.framesCompleted = s.lcd.framesCompleted := by
  obtain ha | ha | ⟨ha, ha'⟩ | ha | ⟨ha, ha'⟩ := address_cases a.toNat
  · rw [State.busWrite_cartridge v s ha, State.cartridgeWrite]
    split <;> exact ⟨rfl, rfl⟩
  · rw [State.busWrite_lcdMemory v s ha]
    exact ⟨rfl, rfl⟩
  · rw [State.busWrite_workRam v s ha ha']
    exact ⟨rfl, rfl⟩
  · rw [State.busWrite_highRam v s ha]
    exact ⟨rfl, rfl⟩
  · obtain ⟨x, f, htimer, -⟩ := s.timerWrite_changes a.toNat v
    rw [State.busWrite_register v s ha ha', htimer]
    split_ifs
    case neg => exact s.lcdRegWrite_images a.toNat v
    all_goals exact ⟨rfl, rfl⟩

/-- Settles O51: of all that a step does only the LCD controller's step reaches the images, at the start of V-blank. -/
theorem imageChangesOnlyAtVBlank : Obligations.ImageChangesOnlyAtVBlank := by
  unfold Obligations.ImageChangesOnlyAtVBlank
  intro s t hstep
  cases hfault : s.fault with
  | some f =>
    rw [step_faulted hfault] at hstep
    cases hstep
  | none =>
    obtain ⟨u, t', f, e, hr, hu⟩ := step_reaches hfault
    obtain rfl : t'.nextCycle = t := Host.Outcome.next.inj (e.symm.trans hstep)
    obtain ⟨x, l, d, g, m, hdev, himages⟩ := deviceStep_changes s
    have hlatest := hr.keeps (fun p => p.lcd.latestImage) fun a v w => (w.busWrite_images a v).1
    have hcount := hr.keeps (fun p => p.lcd.framesCompleted) fun a v w => (w.busWrite_images a v).2
    rw [hu, hdev] at hlatest hcount
    rw [← show t'.nextCycle.lcd.latestImage = l.latestImage from hlatest,
      ← show t'.nextCycle.lcd.framesCompleted = l.framesCompleted from hcount] at himages
    exact himages

/-! ### The decoded instruction (R227, R230) -/

theorem cpuStep_of_fetches {s : State} (h : s.Fetches) : cpuStep s = exec s.fetch s.wake := by
  obtain ⟨hidle, hserve⟩ := h
  simp [cpuStep, hidle, hserve]

/-- Settles O3: a step unfolds into its three parts, and the list decoder reads the three bytes the fetch reads. -/
theorem stepRunsTheDecodedInstruction : Obligations.StepRunsTheDecodedInstruction := by
  unfold Obligations.StepRunsTheDecodedInstruction
  have hcounted : ∀ s : State, s.NoFault → step s = counted (cpuStep (deviceStep s)) := fun s h => by
    have hs : s.fault = none := h
    simp only [step, cycleStep, hs]
    cases cpuStep (deviceStep s) <;> rfl
  refine ⟨fun s => ⟨rfl, hcounted s⟩, fun s i h hf hdec _ => ?_⟩
  rw [decode_cons_cons_cons, Except.ok.injEq] at hdec
  rw [hcounted s h, cpuStep_of_fetches hf, ← hdec]
  rfl

/-! ### The interrupt check (R225, R228, R229) -/

/-- A line that is pending with none below it is the one serviced (R225). -/
theorem State.lowestLine_pending_eq {s : State} {i : Nat} (hi : i < 5) (hset : (s.ie &&& s.iflag).getLsbD i = true)
    (hlowest : ∀ j, j < i → (s.ie &&& s.iflag).getLsbD j = false) : lowestLine s.pending = i := by
  have hbit : s.pending.getLsbD i = true := (s.getLsbD_pending_line hi).trans hset
  refine le_antisymm (lowestLine_le hi hbit) (le_of_not_gt fun hlt => ?_)
  have hserved := getLsbD_lowestLine hi hbit
  rw [s.getLsbD_pending_line (lowestLine_lt_five _), hlowest _ hlt] at hserved
  cases hserved

@[simp] theorem State.wake_iflag (s : State) : s.wake.iflag = s.iflag := congrArg DevicePart.iflag s.wake_devicePart

/-- Settles O42: a pending line with IME 1 is serviced from the awakened state, and otherwise the CPU fetches. -/
theorem cpuActsByTheInterruptCheck : Obligations.CpuActsByTheInterruptCheck := by
  unfold Obligations.CpuActsByTheInterruptCheck
  refine ⟨fun s i hime hidle hi hset hlowest => ?_, fun s hidle h => cpuStep_of_fetch hidle h⟩
  have hline := State.lowestLine_pending_eq hi hset hlowest
  have hpending : s.pending ≠ 0 := fun hzero => by
    have hbit := (s.getLsbD_pending_line hi).trans hset
    simp [hzero] at hbit
  rw [cpuStep_of_service hidle hime hpending, State.serviceInterrupt_eq]
  simp only [State.wake_pending, State.wake_pc, State.wake_iflag, State.wake_cycle, hline]

/-! ### A dead halt (R277 c) -/

theorem State.deadHalt_eq_true_iff (s : State) : s.deadHalt = true ↔ s.run = .halted ∧ s.ie &&& 0x1F = 0 := by
  simp [State.deadHalt]

/-- With no line enabled none is pending, so a dead halt is idle (R227). -/
theorem State.idle_of_deadHalt {s : State} (h : s.deadHalt = true) : s.idle = true := by
  obtain ⟨hrun, hie⟩ := s.deadHalt_eq_true_iff.mp h
  have hpending : s.pending = 0 := by
    rw [State.pending, BitVec.and_assoc, BitVec.and_comm s.iflag, ← BitVec.and_assoc, hie]
    exact BitVec.zero_and
  exact s.idle_eq_true_iff.mpr (.inl ⟨hrun, hpending⟩)

theorem deviceStep_deadHalt {s : State} (h : s.deadHalt = true) : (deviceStep s).deadHalt = true := by
  rw [State.deadHalt_eq_true_iff] at h ⊢
  rwa [deviceStep_run, deviceStep_ie]

theorem runCycles_of_step {s t : State} (h : step s = .next t) (n : Nat) : runCycles (n + 1) s = runCycles n t := by
  simp [runCycles, h]

/-- Settles O44: each cycle of a dead halt is the devices' steps alone, which keep it and the CPU. -/
theorem deadHaltNeverWakes : Obligations.DeadHaltNeverWakes := by
  unfold Obligations.DeadHaltNeverWakes
  intro n
  induction n with
  | zero => exact fun s h hdead => ⟨hdead, h, rfl, rfl, rfl, rfl, rfl, rfl⟩
  | succ n ih =>
    intro s h hdead
    have hdev := deviceStep_deadHalt hdead
    have hfault : (deviceStep s).nextCycle.NoFault := (deviceStep_fault s).trans h
    rw [runCycles_of_step (step_of_idle h (State.idle_of_deadHalt hdev))]
    obtain ⟨hdead', hfault', hregs, hsp, hpc, hime, hie, hcycle⟩ := ih _ hfault hdev
    have hcount : (deviceStep s).nextCycle.cycle + n = s.cycle + (n + 1) := by
      rw [State.nextCycle_cycle, deviceStep_cycle, Nat.add_assoc, Nat.add_comm 1]
    exact ⟨hdead', hfault', hregs.trans (deviceStep_regs s), hsp.trans (deviceStep_sp s), hpc.trans (deviceStep_pc s),
      hime.trans (deviceStep_ime s), hie.trans (deviceStep_ie s), hcycle.trans hcount⟩

/-! ### The run to a target (R221) -/

theorem State.runUntil_eq_runCycles {s : State} (h : s.NoFault) {target : Nat} (hle : s.cycle ≤ target) :
    s.runUntil target = runCycles (target - s.cycle) s := by
  have hs : s.fault = none := h
  simp [State.runUntil, hs, hle.not_gt]

theorem State.runUntil_past {s : State} (h : s.NoFault) {target : Nat} (hlt : target < s.cycle) :
    s.runUntil target = { s with fault := some (.clockNotMonotonic s.cycle target) } := by
  have hs : s.fault = none := h
  simp [State.runUntil, hs, hlt, State.raiseFault]

section
variable {s : State} {n : Nat}

/-- As long as no fault is recorded, one cycle more is one step more. -/
theorem step_runCycles (h : (runCycles n s).NoFault) : step (runCycles n s) = .next (runCycles (n + 1) s) := by
  obtain ⟨t, ht⟩ := step_next h
  rw [runCycles_succ, runCycles_of_step ht, ht]
  rfl

theorem runCycles_succ_of_fault (h : ¬(runCycles n s).NoFault) : runCycles (n + 1) s = runCycles n s := by
  obtain ⟨f, hf⟩ := Option.ne_none_iff_exists'.mp h
  rw [runCycles_succ, runCycles_faulted 1 hf]

/-- A run that has recorded no fault has counted every cycle. -/
theorem runCycles_cycle (h : (runCycles n s).NoFault) : (runCycles n s).cycle = s.cycle + n := by
  induction n with
  | zero => rfl
  | succ n ih =>
    have hn : (runCycles n s).NoFault := by
      by_contra hfault
      exact hfault (runCycles_succ_of_fault hfault ▸ h)
    obtain ⟨t, ht, hcycle, -⟩ := step_completes hn
    obtain rfl : runCycles (n + 1) s = t := Host.Outcome.next.inj ((step_runCycles hn).symm.trans ht)
    rw [hcycle, ih hn, Nat.add_assoc]

/-- A run that has recorded a fault stands after the step of the cycle that recorded it. -/
theorem exists_faulting_step (h : s.NoFault) (hfault : ¬(runCycles n s).NoFault) :
    ∃ k < n, (runCycles k s).NoFault ∧ step (runCycles k s) = .next (runCycles n s) := by
  induction n with
  | zero => exact absurd h hfault
  | succ n ih =>
    by_cases hn : (runCycles n s).NoFault
    · exact ⟨n, n.lt_succ_self, hn, step_runCycles hn⟩
    · rw [runCycles_succ_of_fault hn] at hfault ⊢
      obtain ⟨k, hk, hrun⟩ := ih hfault
      exact ⟨k, hk.trans n.lt_succ_self, hrun⟩

end

/-- Settles O45: the run takes one step for each cycle up to its target, or stands still after the faulting one. -/
theorem runUntilReachesItsTarget : Obligations.RunUntilReachesItsTarget := by
  unfold Obligations.RunUntilReachesItsTarget
  intro s target h
  refine ⟨State.runUntil_past h, ?_, fun hle => ?_⟩
  · rw [State.runUntil_eq_runCycles h le_rfl, Nat.sub_self, runCycles]
  · obtain ⟨n, rfl⟩ := Nat.exists_eq_add_of_le hle
    have hrun : ∀ k, s.runUntil (s.cycle + k) = runCycles k s := fun k => by
      rw [State.runUntil_eq_runCycles h (by omega), Nat.add_sub_cancel_left]
    rw [Nat.add_assoc, hrun, hrun]
    by_cases hn : (runCycles n s).NoFault
    · have hcycle := runCycles_cycle hn
      exact ⟨hcycle.le, fun _ => ⟨hcycle, step_runCycles hn⟩, fun hfault => absurd hn hfault⟩
    · obtain ⟨k, hk, hu, hstep⟩ := exists_faulting_step h hn
      have hcycle := runCycles_cycle hu
      obtain ⟨t, ht, hnext, -⟩ := step_completes hu
      obtain rfl : runCycles n s = t := Host.Outcome.next.inj (hstep.symm.trans ht)
      have hself : runCycles k s = s.runUntil (runCycles k s).cycle := by rw [hcycle, hrun]
      exact ⟨by omega, fun hfault => absurd hfault hn, fun _ =>
        ⟨runCycles_succ_of_fault hn, runCycles k s, hu, by omega, hself, hstep, hnext⟩⟩

end Sys2Proof.Machine
end

section
/-! PROOFS. The timer (spec 60_exceptions.md R243 to R247): its step and the two register writes by the falling edge of
its signal, and how often the signal falls over many steps. -/

namespace Sys2Proof.Machine

open Sys2Proof.Rules

/-! ### The signal and its falling edge (R243, R244) -/

/-- TAC[1:0] as a number. -/
theorem toNat_extractLsb'_two (tac : Byte) : (tac.extractLsb' 0 2).toNat = (tac &&& 3).toNat := by
  rw [BitVec.extractLsb'_toNat, Nat.shiftRight_zero, BitVec.toNat_and]
  exact (Nat.and_two_pow_sub_one_eq_mod tac.toNat 2).symm

/-- Whether the signal falls when the divider and TAC change from `d` and `tac` to `d'` and `tac'` (R244). -/
def timerFalls (d d' : Word) (tac tac' : Byte) : Bool := timerSignal d tac && !timerSignal d' tac'

theorem timerFalls_eq_true_iff (d d' : Word) (tac tac' : Byte) :
    timerFalls d d' tac tac' = true ↔ timerSignal d tac = true ∧ timerSignal d' tac' = false := by
  simp [timerFalls]

/-- A change of the divider and TAC counts exactly when the signal falls (R244, R246, R247). -/
theorem State.timerEdge_eq (d : Word) (tac : Byte) (s : State) :
    s.timerEdge d tac =
      if timerSignal s.timer.div16 s.timer.tac = true ∧ timerSignal d tac = false then
        State.incrementTima { s with timer := { s.timer with div16 := d, tac := tac } }
      else { s with timer := { s.timer with div16 := d, tac := tac } } := by
  simp only [← timerFalls_eq_true_iff]
  rfl

theorem State.incrementTima_eq (s : State) :
    s.incrementTima =
      if s.timer.tima = 0xFF then
        { s with timer := { s.timer with tima := s.timer.tma }, iflag := s.iflag ||| 4 }
      else { s with timer := { s.timer with tima := s.timer.tima + 1 } } := rfl

/-- A write to a register of the timer reaches it alone (R63). -/
theorem State.busWrite_timerRegister (v : Byte) (s : State) {a : Word} (h : 0xFF04 ≤ a.toNat)
    (h' : a.toNat ≤ 0xFF07) : s.busWrite a v = s.timerWrite a.toNat v := by
  rw [State.busWrite_register v s (by omega) (inHighRam_below (by omega)), if_neg (by omega), if_neg (by omega),
    if_neg (by omega), if_neg (by omega), if_pos (by omega)]

theorem State.busWrite_div (v : Byte) (s : State) : s.busWrite 0xFF04 v = s.timerEdge 0 s.timer.tac :=
  State.busWrite_timerRegister v s (by decide) (by decide)

theorem State.busWrite_tac (v : Byte) (s : State) : s.busWrite 0xFF07 v = s.timerEdge s.timer.div16 v :=
  State.busWrite_timerRegister v s (by decide) (by decide)

theorem timerSignal_zero (tac : Byte) : timerSignal 0 tac = false := by
  simp [timerSignal]

/-- Settles O46: the step and both writes are a change of the divider or TAC, which counts where the signal of the bit
that TAC[1:0] selects falls, and a cleared divider has no signal. -/
theorem timerEdges : Obligations.TimerEdges := by
  unfold Obligations.TimerEdges
  refine ⟨fun s => ?_, fun s v => ?_⟩
  · intro bit d
    have hbit : ∀ d, bit d = timerSignal d s.timer.tac := fun d => by
      simp only [bit, timerSignal, Config.tacSelect, toNat_extractLsb'_two]
      match (s.timer.tac &&& 3).toNat with
      | 0 | 1 | 2 | _ + 3 => rfl
    rw [hbit, hbit]
    exact State.timerEdge_eq _ _ s
  · intro bit cleared stored
    have hbit : ∀ tac, bit tac = timerSignal s.timer.div16 tac := fun tac => by
      have hsel := toNat_extractLsb'_two tac
      unfold timerSignal Config.tacSelect
      generalize (tac.extractLsb' 0 2).toNat = k at hsel ⊢
      subst hsel
      rfl
    rw [hbit, hbit, State.busWrite_div, State.busWrite_tac, State.timerEdge_eq, State.timerEdge_eq, timerSignal_zero]
    exact ⟨if_congr (and_iff_left rfl) rfl rfl, rfl⟩

/-! ### How often the signal falls (R244) -/

/-- Bit `b` falls over four counts where the count passes a multiple of `2 ^ (b + 1)`. -/
theorem add_four_div_two_pow {b : Nat} (hb : 2 ≤ b) (n : Nat) :
    (n + 4) / 2 ^ (b + 1) = n / 2 ^ (b + 1) + (n.testBit b && !(n + 4).testBit b).toNat := by
  have hwidth : 4 ≤ 2 ^ b := Nat.pow_le_pow_right two_pos hb
  have hlow : n / 2 ^ b ≤ (n + 4) / 2 ^ b := Nat.div_le_div_right (by omega)
  have hhigh : (n + 4) / 2 ^ b ≤ n / 2 ^ b + 1 := by
    rw [← Nat.add_div_right n (Nat.two_pow_pos b)]
    exact Nat.div_le_div_right (by omega)
  rw [Nat.pow_succ, ← Nat.div_div_eq_div_mul, ← Nat.div_div_eq_div_mul, Nat.testBit_eq_decide_div_mod_eq,
    Nat.testBit_eq_decide_div_mod_eq, ← decide_not, ← Bool.decide_and, toNat_decide_eq_ite]
  split <;> omega

/-- How often a counter passes a multiple of a divisor of its modulus does not depend on its overflows. -/
theorem mod_add_div_sub_div {p m : Nat} (h : p ∣ m) (hp : 0 < p) (x y : Nat) :
    (x % m + y) / p - x % m / p = (x + y) / p - x / p := by
  obtain ⟨k, rfl⟩ := h
  conv_rhs => rw [← Nat.div_add_mod x (p * k), Nat.mul_assoc, Nat.add_assoc]
  rw [Nat.mul_add_div hp, Nat.mul_add_div hp, Nat.add_sub_add_left]

theorem timaPeriod_eq (sel : BitVec 2) : timaPeriod sel = 2 ^ (Config.tacSelect sel + 1) := by
  unfold timaPeriod Config.tacSelect
  match sel.toNat with
  | 0 | 1 | 2 | _ + 3 => rfl

theorem tacSelect_bounds (sel : BitVec 2) : 3 ≤ Config.tacSelect sel ∧ Config.tacSelect sel ≤ 9 := by
  unfold Config.tacSelect
  split <;> decide

/-- How often TIMA counts in `n` steps from divider `d` (R244). -/
def timaCount (n : Nat) (d : Word) (tac : Byte) : Nat :=
  if tac.getLsbD 2 then
    (d.toNat + 4 * n) / timaPeriod (tac.extractLsb' 0 2) - d.toNat / timaPeriod (tac.extractLsb' 0 2)
  else 0

/-- One step more counts once more where the signal falls in it. -/
theorem timaCount_succ (n : Nat) (d : Word) (tac : Byte) :
    timaCount (n + 1) d tac = (timerFalls d (d + 4) tac tac).toNat + timaCount n (d + 4) tac := by
  unfold timaCount timerFalls timerSignal
  cases tac.getLsbD 2 with
  | false => rfl
  | true =>
    obtain ⟨hlow, hhigh⟩ := tacSelect_bounds (tac.extractLsb' 0 2)
    rw [timaPeriod_eq]
    generalize Config.tacSelect (tac.extractLsb' 0 2) = b at hlow hhigh
    have hsum : (d + 4).toNat = (d.toNat + 4) % 2 ^ 16 := BitVec.toNat_add d 4
    have hbit : (d + 4).getLsbD b = (d.toNat + 4).testBit b := by
      rw [BitVec.getLsbD, hsum, Nat.testBit_mod_two_pow, decide_eq_true (by omega), Bool.true_and]
    have hperiod : 2 ^ (b + 1) ∣ 2 ^ 16 := Nat.pow_dvd_pow 2 (by omega)
    have hfalls := add_four_div_two_pow (by omega : 2 ≤ b) d.toNat
    have hmono : (d.toNat + 4) / 2 ^ (b + 1) ≤ (d.toNat + 4 + 4 * n) / 2 ^ (b + 1) :=
      Nat.div_le_div_right (Nat.le_add_right _ _)
    simp only [if_true, Bool.true_and]
    rw [hbit, hsum, mod_add_div_sub_div hperiod (Nat.two_pow_pos _), BitVec.getLsbD, Nat.mul_succ,
      Nat.add_comm (4 * n), ← Nat.add_assoc]
    omega

/-- A step in which TIMA does not overflow (R243, R244). -/
theorem timerStep_of_no_overflow {s : State}
    (h : s.timer.tima.toNat + (timerFalls s.timer.div16 (s.timer.div16 + 4) s.timer.tac s.timer.tac).toNat ≤ 255) :
    timerStep s =
      { s with timer :=
        { s.timer with
          div16 := s.timer.div16 + 4
          tima := s.timer.tima +
            BitVec.ofNat 8 (timerFalls s.timer.div16 (s.timer.div16 + 4) s.timer.tac s.timer.tac).toNat } } := by
  rw [timerStep, State.timerEdge_eq]
  simp only [← timerFalls_eq_true_iff, Config.divIncrement]
  cases hf : timerFalls s.timer.div16 (s.timer.div16 + 4) s.timer.tac s.timer.tac with
  | false => simp
  | true =>
    have hlast : s.timer.tima ≠ 0xFF := fun e => by
      rw [hf, e] at h
      exact absurd h (by decide)
    rw [if_pos rfl]
    exact State.incrementTima_counts hlast

/-- Many steps in which TIMA does not overflow (R244). -/
theorem timerSteps_eq (n : Nat) (s : State)
    (h : s.timer.tima.toNat + timaCount n s.timer.div16 s.timer.tac ≤ 255) :
    timerSteps n s =
      { s with timer :=
        { s.timer with
          div16 := s.timer.div16 + BitVec.ofNat 16 (4 * n)
          tima := BitVec.ofNat 8 (s.timer.tima.toNat + timaCount n s.timer.div16 s.timer.tac) } } := by
  induction n generalizing s with
  | zero => simp [timerSteps, timaCount]
  | succ n ih =>
    rw [timaCount_succ, ← Nat.add_assoc] at h ⊢
    have hstep := timerStep_of_no_overflow ((Nat.le_add_right _ _).trans h)
    generalize timerFalls s.timer.div16 (s.timer.div16 + 4) s.timer.tac s.timer.tac = falls at h hstep ⊢
    have htima : (s.timer.tima + BitVec.ofNat 8 falls.toNat).toNat = s.timer.tima.toNat + falls.toNat := by
      rw [BitVec.toNat_add, BitVec.toNat_ofNat, Nat.add_mod_mod]
      exact Nat.mod_eq_of_lt (by omega)
    have hdiv : s.timer.div16 + 4 + BitVec.ofNat 16 (4 * n) = s.timer.div16 + BitVec.ofNat 16 (4 * (n + 1)) := by
      rw [Nat.mul_succ, Nat.add_comm, BitVec.ofNat_add, BitVec.add_assoc]
      rfl
    rw [timerSteps, hstep, ih _ (htima.symm ▸ h)]
    simp only [htima, hdiv]

/-- Settles O47: by induction on the steps, each of which counts where the signal falls. -/
theorem timaFrequency : Obligations.TimaFrequency := by
  unfold Obligations.TimaFrequency
  exact fun n s h => timerSteps_eq n s h

end Sys2Proof.Machine
end

section
/-! PROOFS. The sprites of a line (spec 60_exceptions.md R261): the first ten covering ones, and their order as an
insertion sort by X. -/

namespace Sys2Proof.Machine

/-- The order sprites are drawn in is that of the library's insertion sort by X. -/
theorem sortByX_eq_insertionSort (os : List Sprite) :
    sortByX os = os.insertionSort (fun o p => o.x.toNat ≤ p.x.toNat) := by
  have hinsert : ∀ (o : Sprite) (ps : List Sprite),
      insertByX o ps = ps.orderedInsert (fun o p => o.x.toNat ≤ p.x.toNat) o := fun o ps => by
    induction ps with
    | nil => rfl
    | cons p ps ih => rw [insertByX, List.orderedInsert_cons, ih]
  induction os with
  | nil => rfl
  | cons o os ih => rw [sortByX, ih, hinsert, List.insertionSort_cons]

theorem sortByX_perm (os : List Sprite) : (sortByX os).Perm os := by
  rw [sortByX_eq_insertionSort]
  exact List.perm_insertionSort _ os

theorem sortByX_pairwise (os : List Sprite) : (sortByX os).Pairwise (fun o p => o.x.toNat ≤ p.x.toNat) := by
  have htotal : Std.Total (fun o p : Sprite => o.x.toNat ≤ p.x.toNat) := ⟨fun o p => Nat.le_total _ _⟩
  have htrans : IsTrans Sprite (fun o p => o.x.toNat ≤ p.x.toNat) := ⟨fun _ _ _ => Nat.le_trans⟩
  rw [sortByX_eq_insertionSort]
  exact List.pairwise_insertionSort _ os

/-- The sprites of one X keep their order: they are sorted already, so the sort keeps them as a sublist. -/
theorem sortByX_filter (os : List Sprite) (x : Byte) :
    (sortByX os).filter (fun o => o.x == x) = os.filter (fun o => o.x == x) := by
  have hsorted : (os.filter (fun o => o.x == x)).Pairwise (fun o p => o.x.toNat ≤ p.x.toNat) := by
    refine List.pairwise_of_forall_mem_list fun o ho p hp => ?_
    rw [eq_of_beq (List.mem_filter.mp ho).2, eq_of_beq (List.mem_filter.mp hp).2]
  have hsublist : (os.filter (fun o => o.x == x)).Sublist (sortByX os) := by
    rw [sortByX_eq_insertionSort]
    exact List.sublist_insertionSort hsorted List.filter_sublist
  have hkept := hsublist.filter (fun o => o.x == x)
  rw [List.filter_filter] at hkept
  simp only [Bool.and_self] at hkept
  exact (hkept.eq_of_length ((sortByX_perm os).filter _).length_eq.symm).symm

theorem Sprite.covers_eq (lcdc : Byte) (ly : Nat) (o : Sprite) :
    o.covers (spriteHeight lcdc) ly =
      decide (0 ≤ (ly : Int) - (o.y.toNat - 16) ∧
        (ly : Int) - (o.y.toNat - 16) < if lcdc.getLsbD 2 then 16 else 8) := by
  rw [Sprite.covers, spriteHeight, ← Bool.decide_and]
  refine decide_eq_decide.mpr ?_
  split <;> omega

/-- Settles O53: covering is the rule's own inequality, and the order is a stable sort by X. -/
theorem spriteSelectionAndOrder : Obligations.SpriteSelectionAndOrder := by
  unfold Obligations.SpriteSelectionAndOrder
  intro l m ly h covering
  refine ⟨?_, List.length_take_le _ _, sortByX_perm _, sortByX_pairwise _, sortByX_filter _⟩
  rw [selectSprites, funext (Sprite.covers_eq l.lcdc ly)]
  rfl

end Sys2Proof.Machine
end

section
/-! PROOFS. The pixels of a rendered line (spec 60_exceptions.md R256, R257, R262, R263): compositing by priority, and the
memory a line is read from. -/

namespace Sys2Proof.Machine

/-! ### Compositing (R262, R263) -/

/-- The first sprite in priority order with this BEHIND bit that is opaque at the column (R262). -/
def opaqueSprite (l : Lcd) (m : Mem) (ly x : Nat) (behind : Bool) (sprites : List Sprite) : Option Sprite :=
  sprites.find? (fun o => (o.attr.getLsbD 7 == behind) && (spritePixel l m ly x o).solid)

theorem subLinePixel_eq (l : Lcd) (m : Mem) (ly x : Nat) (behind : Bool) (sprites : List Sprite) :
    subLinePixel l m ly x behind sprites =
      ((opaqueSprite l m ly x behind sprites).map (spritePixel l m ly x)).getD Pixel.clear := by
  rw [subLinePixel, opaqueSprite, List.find?_map, List.find?_filter]
  simp only [Bool.decide_and, Bool.decide_eq_true, Function.comp_apply]

theorem opaqueSprite_solid {l : Lcd} {m : Mem} {ly x : Nat} {behind : Bool} {sprites : List Sprite} {o : Sprite}
    (h : opaqueSprite l m ly x behind sprites = some o) : (spritePixel l m ly x o).solid = true := by
  have hfound := List.find?_some h
  simp only [Bool.and_eq_true] at hfound
  exact hfound.2

/-- A foreground sprite that is opaque, else an opaque pixel of the line, else a background-priority sprite that is
opaque, else the line's shade (R263). -/
theorem renderPixel_eq (l : Lcd) (m : Mem) (ly : Nat) (sprites : List Sprite) (x : Nat) :
    renderPixel l m ly sprites x =
      ((opaqueSprite l m ly x false sprites).map fun o => (spritePixel l m ly x o).shade).getD
        (if (linePixel l m ly x).solid then (linePixel l m ly x).shade
        else ((opaqueSprite l m ly x true sprites).map fun o => (spritePixel l m ly x o).shade).getD
          (linePixel l m ly x).shade) := by
  rw [renderPixel, subLinePixel_eq, subLinePixel_eq, composite]
  cases hfront : opaqueSprite l m ly x false sprites with
  | some o => simp [opaqueSprite_solid hfront]
  | none =>
    cases hback : opaqueSprite l m ly x true sprites with
    | some o => simp [Pixel.clear, opaqueSprite_solid hback]
    | none => simp [Pixel.clear]

theorem renderRow_get (l : Lcd) (m : Mem) (ly : Nat) (x : Fin Config.lcdWidth) :
    (renderRow l m ly).get x = renderPixel l m ly (lineSprites l m ly) x := by
  simp [renderRow, Vector.get_eq_getElem]

theorem State.renderLine_row (s : State) {ly : Nat} (h : ly < Config.lcdHeight) :
    (s.renderLine ly).lcd.frame.get ⟨ly, h⟩ = renderRow s.lcd s.mem ly := by
  simp [State.renderLine, Vector.get_eq_getElem]

theorem State.renderLine_otherRow (s : State) {ly : Nat} {j : Fin Config.lcdHeight} (h : j.val ≠ ly) :
    (s.renderLine ly).lcd.frame.get j = s.lcd.frame.get j := by
  simp [State.renderLine, Vector.get_eq_getElem, h.symm]

/-- Settles O54: the row stored is the line's, each of whose pixels is composited by priority. -/
theorem renderedPixels : Obligations.RenderedPixels := by
  unfold Obligations.RenderedPixels
  intro s ly x _ l sprites opaqueAt line shown
  refine ⟨fun h => ?_, fun j hj => s.renderLine_otherRow hj, rfl⟩
  rw [s.renderLine_row h, renderRow_get, renderPixel_eq]
  change ((opaqueAt false).map fun o => (spritePixel l s.mem ly x.val o).shade).getD
    (if line.solid then line.shade
    else ((opaqueAt true).map fun o => (spritePixel l s.mem ly x.val o).shade).getD line.shade) = shown
  simp only [shown]
  cases opaqueAt false with
  | some o => rfl
  | none =>
    cases line.solid with
    | true => rfl
    | false => cases opaqueAt true <;> rfl

/-! ### What a line is read from (R257) -/

/-- Two memories hold the same bytes of video RAM and OAM. -/
structure SameVideoMemory (m m' : Mem) : Prop where
  videoRam : ∀ a, 0x8000 ≤ a → a < 0xA000 → Mem.read m a = Mem.read m' a
  oam : ∀ a, 0xFE00 ≤ a → a < 0xFEA0 → Mem.read m a = Mem.read m' a

theorem tileBase_bounds (lcdc i : Byte) : 0x8000 ≤ tileBase lcdc i ∧ tileBase lcdc i ≤ 0x97F0 := by
  unfold tileBase
  have hi := i.isLt
  have hx := (i ^^^ 0x80).isLt
  split <;> omega

theorem mapBase_bounds (high : Bool) : 0x9800 ≤ mapBase high ∧ mapBase high ≤ 0x9C00 := by
  cases high <;> decide

theorem Sprite.lt_of_covers {h ly : Nat} {o : Sprite} (hc : o.covers h ly = true) : ly + 16 - o.y.toNat < h := by
  simp only [Sprite.covers, Bool.and_eq_true, decide_eq_true_eq] at hc
  omega

/-- The two bytes of a covering sprite's row lie in the 4096 bytes of the object tiles: its row is one of its tile's, and
a tall sprite's tile is not the last (R262). -/
theorem spriteRow_lt {lcdc : Byte} {ly : Nat} {o : Sprite} (hc : o.covers (spriteHeight lcdc) ly = true) :
    16 * (if spriteHeight lcdc = 16 then (o.tile &&& 0xFE).toNat else o.tile.toNat) +
      2 * (if o.attr.getLsbD 6 then spriteHeight lcdc - 1 - (ly + 16 - o.y.toNat) else ly + 16 - o.y.toNat) + 1 <
      0x1000 := by
  have hrow := Sprite.lt_of_covers hc
  have hrow' : (if o.attr.getLsbD 6 then spriteHeight lcdc - 1 - (ly + 16 - o.y.toNat) else ly + 16 - o.y.toNat) <
      spriteHeight lcdc := by
    split <;> omega
  have heven : (o.tile &&& 0xFE).toNat ≤ 0xFE := Nat.and_le_right
  have htile := o.tile.isLt
  have hheight : spriteHeight lcdc = 16 ∨ spriteHeight lcdc = 8 := by
    unfold spriteHeight
    split <;> decide
  obtain h | h := hheight
  · rw [if_pos h]
    omega
  · rw [if_neg (by omega)]
    omega

theorem covers_of_mem_lineSprites {l : Lcd} {m : Mem} {ly : Nat} {o : Sprite} (h : o ∈ lineSprites l m ly) :
    o.covers (spriteHeight l.lcdc) ly = true := by
  unfold lineSprites at h
  split at h
  · rw [(sortByX_perm _).mem_iff] at h
    exact (List.mem_filter.mp (List.mem_of_mem_take h)).2
  · cases h

section
variable {m m' : Mem} (hm : SameVideoMemory m m')
include hm

theorem SameVideoMemory.mapColor_eq (lcdc : Byte) (high : Bool) {x y : Nat} (hx : x < 256) (hy : y < 256) :
    mapColor m lcdc (mapBase high) x y = mapColor m' lcdc (mapBase high) x y := by
  obtain ⟨hmap, hmap'⟩ := mapBase_bounds high
  have htile : Mem.read m (mapBase high + 32 * (y / 8) + x / 8) = Mem.read m' (mapBase high + 32 * (y / 8) + x / 8) :=
    hm.videoRam _ (by omega) (by omega)
  unfold mapColor
  rw [htile]
  generalize Mem.read m' (mapBase high + 32 * (y / 8) + x / 8) = i
  obtain ⟨hlow, hhigh⟩ := tileBase_bounds lcdc i
  unfold tileColor
  rw [hm.videoRam _ (by omega) (by omega), hm.videoRam (tileBase lcdc i + 2 * (y % 8)) (by omega) (by omega)]

theorem SameVideoMemory.linePixel_eq {l : Lcd} (hwin : l.winLine ≤ 144) (ly : Nat) {x : Nat} (hx : x < 160) :
    linePixel l m ly x = linePixel l m' ly x := by
  have hmod : ∀ n, n % Config.bgSize < 256 := fun n => Nat.mod_lt n (by decide)
  have hbg : bgPixel l m ly x = bgPixel l m' ly x := by
    unfold bgPixel
    rw [hm.mapColor_eq _ _ (hmod _) (hmod _)]
  have hwindow :
      windowPixel l m l.winLine (x - (l.wx.toNat - 7)) = windowPixel l m' l.winLine (x - (l.wx.toNat - 7)) := by
    unfold windowPixel
    rw [hm.mapColor_eq _ _ (by omega) (by omega)]
  rw [linePixel, hbg, hwindow]
  rfl

theorem SameVideoMemory.lineSprites_eq (l : Lcd) (ly : Nat) : lineSprites l m ly = lineSprites l m' ly := by
  have htable : (List.range Config.oamEntries).map (oamEntry m) = (List.range Config.oamEntries).map (oamEntry m') := by
    refine List.map_congr_left fun j hj => ?_
    have hlt : j < 40 := List.mem_range.mp hj
    unfold oamEntry
    rw [hm.oam _ (by omega) (by omega), hm.oam (0xFE00 + 4 * j + 1) (by omega) (by omega),
      hm.oam (0xFE00 + 4 * j + 2) (by omega) (by omega), hm.oam (0xFE00 + 4 * j + 3) (by omega) (by omega)]
  rw [lineSprites, selectSprites, htable]
  rfl

theorem SameVideoMemory.spritePixel_eq {l : Lcd} {ly : Nat} {o : Sprite}
    (hc : o.covers (spriteHeight l.lcdc) ly = true) (x : Nat) : spritePixel l m ly x o = spritePixel l m' ly x o := by
  have hrow := spriteRow_lt hc
  have hcolor : spriteColor m (spriteHeight l.lcdc) ly o x = spriteColor m' (spriteHeight l.lcdc) ly o x := by
    unfold spriteColor
    dsimp only
    rw [hm.videoRam _ (by omega) (by omega), hm.videoRam _ (by omega) (by omega)]
  rw [spritePixel, hcolor]
  rfl

theorem SameVideoMemory.renderPixel_eq {l : Lcd} (hwin : l.winLine ≤ 144) (ly : Nat) {x : Nat} (hx : x < 160) :
    renderPixel l m ly (lineSprites l m ly) x = renderPixel l m' ly (lineSprites l m' ly) x := by
  have hsub : ∀ behind, subLinePixel l m ly x behind (lineSprites l m' ly) =
      subLinePixel l m' ly x behind (lineSprites l m' ly) := fun behind => by
    unfold subLinePixel
    rw [List.map_congr_left fun o ho => hm.spritePixel_eq (covers_of_mem_lineSprites (List.mem_filter.mp ho).1) x]
  rw [hm.lineSprites_eq, renderPixel, hm.linePixel_eq hwin ly hx, hsub, hsub]
  rfl

end

/-- Settles O56: every byte a pixel is read from lies in a tile map, a tile or the object table. -/
theorem renderingReadsVideoMemoryOnly : Obligations.RenderingReadsVideoMemoryOnly := by
  unfold Obligations.RenderingReadsVideoMemoryOnly
  intro l m m' ly hwin hram hoam
  have hm : SameVideoMemory m m' := ⟨hram, hoam⟩
  exact congrArg Vector.ofFn (funext fun x => hm.renderPixel_eq hwin ly x.isLt)

end Sys2Proof.Machine
end

section
/-! PROOFS. Planes (spec 60_exceptions.md R264 to R267): the bits of the vector functions and their laws, and that the
plane representation of a line gives the pixels of the rules. -/

namespace Sys2Proof.Machine

/-! ### The bits of the vector functions (R264) -/

@[simp] theorem getLsbD_planeOf {n i : Nat} (h : i < n) (bit : Nat → Bool) : (planeOf n bit).getLsbD i = bit i := by
  simp [planeOf, h]

theorem getLsbD_extractWrapped {len n i : Nat} (v : Plane len) (s : Int) (h : i < n) :
    (extractWrapped v s n).getLsbD i = v.getLsbD ((s + i) % len).toNat := getLsbD_planeOf h _

theorem getLsbD_extractZeroExtended {len n i : Nat} (v : Plane len) (s : Int) (h : i < n) :
    (extractZeroExtended v s n).getLsbD i =
      (decide (0 ≤ s + i) && decide (s + i < len) && v.getLsbD (s + i).toNat) := by
  rw [extractZeroExtended, getLsbD_planeOf h, ← Bool.decide_and]
  split <;> simp [*]

theorem getLsbD_shiftPlane {len i : Nat} (v : Plane len) (d : Int) (h : i < len) :
    (shiftPlane v d).getLsbD i = (decide (0 ≤ i - d) && decide (i - d < len) && v.getLsbD (i - d).toNat) := by
  rw [shiftPlane, getLsbD_extractZeroExtended v _ h, show -d + (i : Int) = i - d by omega]

/-! ### The laws (R265) -/

section
variable {len : Nat} (v : Plane len)

theorem extractWrapped_zero : extractWrapped v 0 len = v :=
  BitVec.eq_of_getLsbD_eq fun i hi => by
    rw [getLsbD_extractWrapped v 0 hi, Int.zero_add, Int.emod_eq_of_lt (by omega) (by omega), Int.toNat_natCast]

theorem extractWrapped_length : extractWrapped v len len = v :=
  BitVec.eq_of_getLsbD_eq fun i hi => by
    rw [getLsbD_extractWrapped v len hi, Int.add_emod_left, Int.emod_eq_of_lt (by omega) (by omega),
      Int.toNat_natCast]

theorem extractZeroExtended_shiftPlane_zero : extractZeroExtended (shiftPlane v 0) 0 len = v :=
  BitVec.eq_of_getLsbD_eq fun i hi => by
    rw [getLsbD_extractZeroExtended _ 0 hi, Int.zero_add, Int.toNat_natCast, getLsbD_shiftPlane v 0 hi]
    simp [hi]

theorem extractZeroExtended_shiftPlane_neg_length : extractZeroExtended (shiftPlane v (-(len : Int))) 0 len = 0 :=
  BitVec.eq_of_getLsbD_eq fun i hi => by
    have hout : ¬((i : Int) - -(len : Int) < len) := by omega
    rw [getLsbD_extractZeroExtended _ 0 hi, Int.zero_add, Int.toNat_natCast, getLsbD_shiftPlane v _ hi]
    rw [decide_eq_false hout, Bool.and_false, Bool.false_and, Bool.and_false]
    exact BitVec.getLsbD_zero.symm

end

/-- A shift by one and back loses the last bit. -/
theorem shiftPlane_shiftPlane_neg : shiftPlane (shiftPlane (BitVec.twoPow 32 31) 1) (-1) ≠ BitVec.twoPow 32 31 := by
  intro h
  have hlost : (shiftPlane (shiftPlane (BitVec.twoPow 32 31) 1) (-1)).getLsbD 31 = false :=
    getLsbD_shiftPlane _ (-1) (by decide)
  rw [h] at hlost
  exact absurd hlost (by decide)

/-- Settles O57: the bits are the definitions', and each law is compared bit by bit. -/
theorem bitVectorLaws : Obligations.BitVectorLaws := by
  unfold Obligations.BitVectorLaws
  refine ⟨fun len v s n i hi => ⟨getLsbD_extractWrapped v s hi, getLsbD_extractZeroExtended v s hi⟩,
    fun len v d i hi => getLsbD_shiftPlane v d hi, fun len v _ => ?_, _, shiftPlane_shiftPlane_neg⟩
  exact ⟨extractWrapped_zero v, extractWrapped_length v, extractZeroExtended_shiftPlane_zero v,
    extractZeroExtended_shiftPlane_neg_length v⟩

/-! ### The pixels of a line of planes (R266, R267) -/

/-- A colour from its two bits. -/
theorem ofNat_two_bits (c : BitVec 2) : BitVec.ofNat 2 (2 * (c.getLsbD 1).toNat + (c.getLsbD 0).toNat) = c := by
  revert c
  decide

theorem colorAt_bne_zero (msb lsb : Byte) (i : Nat) : (colorAt msb lsb i != 0) = (msb.getLsbD i || lsb.getLsbD i) := by
  unfold colorAt
  cases msb.getLsbD i <;> cases lsb.getLsbD i <;> rfl

theorem PixelLine.pixel_eq_of_bits {n k i j : Nat} {l : PixelLine n} {l' : PixelLine k}
    (hmsb : l.msb.getLsbD i = l'.msb.getLsbD j) (hlsb : l.lsb.getLsbD i = l'.lsb.getLsbD j)
    (hsolid : l.solid.getLsbD i = l'.solid.getLsbD j) : l.pixel i = l'.pixel j := by
  rw [PixelLine.pixel, hmsb, hlsb, hsolid, PixelLine.pixel]

theorem PixelLine.pixel_mapColors {n i : Nat} (p : Byte) (l : PixelLine n) (h : i < n) :
    (l.mapColors p).pixel i = ⟨paletteMap p (l.pixel i).shade, (l.pixel i).solid⟩ := by
  simp only [PixelLine.pixel, PixelLine.mapColors, getLsbD_planeOf h, ofNat_two_bits]

theorem PixelLine.pixel_extractWrapped {len n i : Nat} (l : PixelLine len) (s : Int) (h : i < n) :
    (l.extractWrapped s n).pixel i = l.pixel ((s + i) % len).toNat :=
  PixelLine.pixel_eq_of_bits (getLsbD_extractWrapped _ s h) (getLsbD_extractWrapped _ s h)
    (getLsbD_extractWrapped _ s h)

/-- A zero-extended extraction has the line's own pixels where it lies inside the line. -/
theorem PixelLine.pixel_extractZeroExtended {len n i j : Nat} (l : PixelLine len) {s : Int} (h : i < n)
    (hs : s + i = j) (hj : j < len) : (l.extractZeroExtended s n).pixel i = l.pixel j := by
  have hbit : ∀ v : Plane len, (Machine.extractZeroExtended v s n).getLsbD i = v.getLsbD j := fun v => by
    rw [getLsbD_extractZeroExtended v s h, hs, decide_eq_true (by omega), decide_eq_true (by omega), Bool.true_and,
      Bool.true_and, Int.toNat_natCast]
  exact PixelLine.pixel_eq_of_bits (hbit _) (hbit _) (hbit _)

theorem PixelLine.pixel_join {n i : Nat} (l that : PixelLine n) (k : Nat) (h : i < n) :
    (l.join that k).pixel i = if i < k then l.pixel i else that.pixel i := by
  simp only [PixelLine.pixel, PixelLine.join, getLsbD_planeOf h]
  split <;> rfl

/-- One pixel of a tile map's row as planes is the colour the rules give it (R257, R266). -/
theorem pixel_mapRowLine (m : Mem) (lcdc : Byte) (base y : Nat) {x : Nat} (h : x < 256) :
    (mapRowLine m lcdc base y).pixel x = ⟨mapColor m lcdc base x y, mapColor m lcdc base x y != 0⟩ := by
  rw [mapColor, tileColor, colorAt_bne_zero]
  simp only [PixelLine.pixel, mapRowLine, PixelLine.ofBytes, getLsbD_planeOf h]
  rfl

theorem pixel_bgLinePlanes (l : Lcd) (m : Mem) (ly : Nat) {x : Nat} (h : x < 160) :
    (bgLinePlanes l m ly).pixel x = bgPixel l m ly x := by
  have hcolumn : (((l.scx.toNat : Int) + x) % (256 : Nat)).toNat = (x + l.scx.toNat) % 256 := by omega
  rw [bgLinePlanes, PixelLine.pixel_mapColors _ _ h, PixelLine.pixel_extractWrapped _ _ h, hcolumn,
    pixel_mapRowLine _ _ _ _ (Nat.mod_lt _ (by decide))]
  rfl

theorem pixel_windowLinePlanes (l : Lcd) (m : Mem) (n : Nat) {x : Nat} (h : x < 160) (hwx : 7 ≤ l.wx.toNat)
    (hx : l.wx.toNat - 7 ≤ x) : (windowLinePlanes l m n).pixel x = windowPixel l m n (x - (l.wx.toNat - 7)) := by
  rw [windowLinePlanes, PixelLine.shift,
    PixelLine.pixel_extractZeroExtended _ h (j := x - (l.wx.toNat - 7)) (by omega) (by omega),
    PixelLine.pixel_mapColors _ _ (by omega),
    PixelLine.pixel_extractZeroExtended _ (by omega) (Int.zero_add _) (by omega),
    pixel_mapRowLine _ _ _ _ (by omega)]
  rfl

/-- `below` shows the other line's colour where the mask is set (R267). -/
theorem PixelLine.shade_belowMask {n i : Nat} (l that : PixelLine n) (mask : Plane n) (h : i < n) :
    ((l.belowMask that mask).pixel i).shade = if mask.getLsbD i then (that.pixel i).shade else (l.pixel i).shade := by
  simp only [PixelLine.pixel, PixelLine.belowMask, BitVec.getLsbD_or, BitVec.getLsbD_and, BitVec.getLsbD_not,
    decide_eq_true h, Bool.true_and]
  cases mask.getLsbD i <;> simp

theorem PixelLine.solid_pixel {n : Nat} (l : PixelLine n) (i : Nat) : (l.pixel i).solid = l.solid.getLsbD i := rfl

/-- The line is shown behind the foreground where it is opaque or the background-priority sprites are not (R263, R267). -/
theorem composite_eq (line bg fg : Pixel) :
    composite line bg fg = if fg.solid then fg.shade else if line.solid || !bg.solid then line.shade else bg.shade := by
  rw [composite]
  cases line.solid
  · cases bg.solid <;> rfl
  · rfl

theorem shade_compositePlanes {n i : Nat} (line bg fg : PixelLine n) (h : i < n) :
    ((compositePlanes line bg fg).pixel i).shade = composite (line.pixel i) (bg.pixel i) (fg.pixel i) := by
  have hmask : (line.solid ||| ~~~bg.solid).getLsbD i = ((line.pixel i).solid || !(bg.pixel i).solid) := by
    rw [BitVec.getLsbD_or, BitVec.getLsbD_not, decide_eq_true h, Bool.true_and]
    rfl
  rw [compositePlanes, PixelLine.below, PixelLine.shade_belowMask _ _ _ h, PixelLine.shade_belowMask _ _ _ h, hmask,
    ← PixelLine.solid_pixel, composite_eq]

/-- Settles O58: each plane operation gives the pixels of the rule it stands for. -/
theorem planesGiveTheSamePixels : Obligations.PlanesGiveTheSamePixels := by
  unfold Obligations.PlanesGiveTheSamePixels
  intro l m ly x line bg fg h
  refine ⟨pixel_bgLinePlanes l m ly h, fun hwx _ => ?_, shade_compositePlanes line bg fg h⟩
  rw [PixelLine.pixel_join _ _ _ h]
  split
  · exact pixel_bgLinePlanes l m ly h
  · exact pixel_windowLinePlanes l m _ h hwx (by omega)

end Sys2Proof.Machine
end

section
/-! PROOFS. The DMA engine (spec 60_exceptions.md R54, R268, R269): a copy byte by byte, none of whose writes shows where
it has not written yet. -/

namespace Sys2Proof.Machine

open Sys2Proof.Rules

/-! ### Starting a copy (R268) -/

theorem State.busWrite_dma (v : Byte) (s : State) :
    s.busWrite 0xFF46 v = { s with lcd := { s.lcd with dma := v }, dma := ⟨true, v ++ 0#8, 0⟩ } :=
  State.busWrite_lcdRegister v s (by decide) (by decide)

theorem toNat_page (v : Byte) : (v ++ 0#8).toNat = v.toNat * 256 := by
  rw [BitVec.toNat_append]
  simp [Nat.shiftLeft_eq]

/-- Byte `k` of a page (R268). -/
theorem toNat_page_add (v : Byte) {k : Nat} (hk : k < 160) :
    ((v ++ 0#8) + BitVec.ofNat 16 k).toNat = v.toNat * 256 + k := by
  have hv := v.isLt
  rw [BitVec.toNat_add, toNat_page, BitVec.toNat_ofNat]
  omega

/-- The address of OAM byte `k` (R67). -/
theorem toNat_oam_add {k : Nat} (hk : k < 160) : (0xFE00 + BitVec.ofNat 16 k : Word).toNat = 0xFE00 + k := by
  rw [BitVec.toNat_add, BitVec.toNat_ofNat]
  simp
  omega

/-! ### One byte (R269) -/

theorem dmaStep_active {s : State} {source : Word} {n : Nat} (h : s.dma = ⟨true, source, n⟩) :
    dmaStep s =
      { s.poke (0xFE00 + n) (s.busRead (source + BitVec.ofNat 16 n)) with dma := ⟨n + 1 != 160, source, n + 1⟩ } := by
  simp only [dmaStep, h, if_true]
  rfl

theorem dmaStep_inactive {s : State} (h : s.dma.active = false) : dmaStep s = s := by
  simp [dmaStep, h]

/-- A DMA step shows at the byte of OAM it copies to, and nowhere else (R269). -/
theorem dmaStep_busRead {s : State} {source : Word} {n : Nat} (hwf : s.mem.wf = true) (h : s.dma = ⟨true, source, n⟩)
    (hn : n < 160) (a : Word) :
    (dmaStep s).busRead a =
      if a.toNat = 0xFE00 + n then s.busRead (source + BitVec.ofNat 16 n) else s.busRead a := by
  rw [dmaStep_active h]
  split
  · next ha =>
    have hoam : inLcdMemory a.toNat = true := by
      rw [inLcdMemory_iff]
      omega
    rw [State.busRead_lcdMemory _ hoam, ha]
    exact Mem.read_write_same hwf _ _
  · next ha =>
    have hplace : workRamPlace a.toNat ≠ some (0xFE00 + n) := by
      rw [Ne, workRamPlace_eq_some_iff]
      omega
    exact (State.busRead_withRegisters _ _ rfl rfl fun _ => rfl).trans (State.busRead_poke hwf _ ha hplace)

/-! ### The bytes copied so far (R269) -/

/-- `t` is `s` with the first `n` bytes of page `v` copied; the rest of `t` still reads as `s` does. -/
structure DmaCopied (v : Byte) (s : State) (n : Nat) (t : State) : Prop where
  wf : t.mem.wf = true
  engine : t.dma = ⟨n != 160, v ++ 0#8, n⟩
  copied : ∀ k < n, t.busRead (0xFE00 + BitVec.ofNat 16 k) = s.busRead ((v ++ 0#8) + BitVec.ofNat 16 k)
  frame : ∀ a : Word, (a.toNat < 0xFE00 ∨ 0xFE00 + n ≤ a.toNat) → t.busRead a = s.busRead a

/-- The next byte is read from where nothing has been written yet, even from the page that OAM lies in. -/
theorem DmaCopied.step {v : Byte} {s t : State} {n : Nat} (h : DmaCopied v s n t) (hn : n < 160) :
    DmaCopied v s (n + 1) (dmaStep t) := by
  obtain ⟨hwf, hengine, hcopied, hframe⟩ := h
  rw [show (n != 160) = true from bne_iff_ne.mpr hn.ne] at hengine
  have hread := dmaStep_busRead hwf hengine hn
  refine ⟨dmaStep_wf hwf, by rw [dmaStep_active hengine], fun k hk => ?_, fun a ha => ?_⟩
  · rw [hread, toNat_oam_add (by omega)]
    split
    · next hlast =>
      obtain rfl : k = n := by omega
      exact hframe _ (by rw [toNat_page_add v hn]; omega)
    · exact hcopied k (by omega)
  · rw [hread, if_neg (by omega)]
    exact hframe a (by omega)

theorem dmaSteps_succ (n : Nat) (s : State) : dmaSteps (n + 1) s = dmaStep (dmaSteps n s) := by
  induction n generalizing s with
  | zero => rfl
  | succ n ih => exact ih (dmaStep s)

/-- The copy after any number of steps up to the whole page. -/
theorem dmaCopied_dmaSteps {v : Byte} {s : State} (hwf : s.mem.wf = true) (hengine : s.dma = ⟨true, v ++ 0#8, 0⟩)
    {n : Nat} (hn : n ≤ 160) : DmaCopied v s n (dmaSteps n s) := by
  induction n with
  | zero => exact ⟨hwf, hengine, fun k hk => absurd hk k.not_lt_zero, fun a _ => rfl⟩
  | succ n ih =>
    rw [dmaSteps_succ]
    exact (ih (by omega)).step hn

/-- Settles O59: a write to the register starts the copy, and after 160 steps the whole page is copied. -/
theorem dmaCopiesThePage : Obligations.DmaCopiesThePage := by
  unfold Obligations.DmaCopiesThePage
  intro s v hwf armed done
  have harmed : armed = { s with lcd := { s.lcd with dma := v }, dma := ⟨true, v ++ 0#8, 0⟩ } := s.busWrite_dma v
  obtain ⟨-, hengine, hcopied, hframe⟩ : DmaCopied v armed 160 done :=
    dmaCopied_dmaSteps (State.busWrite_wf 0xFF46 v hwf) (congrArg State.dma harmed) le_rfl
  exact ⟨harmed, hcopied, hframe, congrArg Dma.active hengine, congrArg Dma.index hengine,
    dmaStep_inactive (congrArg Dma.active hengine)⟩

end Sys2Proof.Machine
end

section
/-! PROOFS. The registers, the flags and SP over every instruction word (spec 10_state.md R20 to R28): what each shared
operation may write, that it writes nothing else, and that the tables of the statements say the same. -/

namespace Sys2Proof.Machine

open Sys2Proof.Rules

/-! ### Writes of the register file -/

/-- `y` is `x` after writes of registers in `rs`, and of no other. -/
inductive RegWrites (rs : List Reg8) (x : Regs) : Regs → Prop where
  | refl : RegWrites rs x x
  | set {y : Regs} (h : RegWrites rs x y) {r : Reg8} (hr : r ∈ rs) (v : Byte) : RegWrites rs x (y.set r v)

theorem RegWrites.get_eq {rs : List Reg8} {x y : Regs} (h : RegWrites rs x y) {q : Reg8} (hq : q ∉ rs) :
    y.get q = x.get q := by
  induction h with
  | refl => rfl
  | set _ hr v ih => rw [Regs.get_set_other _ v (ne_of_mem_of_not_mem hr hq).symm, ih]

/-- No write sets a low bit of F (R22). -/
theorem Regs.set_low_flags {x : Regs} (h : x.f &&& 0x0F = 0) (r : Reg8) (v : Byte) : (x.set r v).f &&& 0x0F = 0 := by
  cases r with
  | f => simp [Regs.set, BitVec.and_assoc]
  | a | b | c | d | e | h | l => exact h

theorem RegWrites.low_flags {rs : List Reg8} {x y : Regs} (h : RegWrites rs x y) (hx : x.f &&& 0x0F = 0) :
    y.f &&& 0x0F = 0 := by
  induction h with
  | refl => exact hx
  | set _ _ v ih => exact Regs.set_low_flags ih _ v

/-! ### The registers a shared operation writes -/

/-- The register of an 8-bit operand; `(HL)` is none (R88). -/
def R8.registers (o : R8) : List Reg8 :=
  match o with
  | .b => [.b]
  | .c => [.c]
  | .d => [.d]
  | .e => [.e]
  | .h => [.h]
  | .l => [.l]
  | .atHl => []
  | .a => [.a]

/-- The registers of a 16-bit operand; SP is none of the register file (R89). -/
def R16.registers (o : R16) : List Reg8 :=
  match o with
  | .bc => [.b, .c]
  | .de => [.d, .e]
  | .hl => [.h, .l]
  | .sp => []

/-- The registers of a stack operand (R89). -/
def R16Stk.registers (o : R16Stk) : List Reg8 :=
  match o with
  | .bc => [.b, .c]
  | .de => [.d, .e]
  | .hl => [.h, .l]
  | .af => [.a, .f]

/-- The registers an indirect access moves (R125 to R128). -/
def IndAddr.registers (p : IndAddr) : List Reg8 :=
  match p with
  | .bc | .de => []
  | .hlInc | .hlDec => [.h, .l]

/-- The registers an operation of the second table writes (R182 to R203). -/
def tableTwoRegisters (op2 : Byte) : List Reg8 :=
  match (fieldX op2).toNat with
  | 0 => .f :: (r8OfField (fieldZ op2)).registers
  | 1 => [.f]
  | _ => (r8OfField (fieldZ op2)).registers

/-- The registers a shared operation may write. -/
def SharedOp.registers (op : SharedOp) : List Reg8 :=
  match op with
  | .loadR8 dst _ | .loadN8 dst _ => dst.registers
  | .loadR16 o _ | .incrementR16 o | .decrementR16 o => o.registers
  | .loadIndirect p => .a :: p.registers
  | .storeIndirect p => p.registers
  | .loadAbsolute _ | .loadHighN8 _ | .loadHighC => [.a]
  | .popR16 o => o.registers
  | .aluR8 k _ | .aluN8 k _ => if k.writesA then [.a, .f] else [.f]
  | .incrementR8 o | .decrementR8 o => o.registers ++ [.f]
  | .decimalAdjust | .complementA | .rotateA _ => [.a, .f]
  | .setCarry | .complementCarry | .addSp _ | .testR8 _ _ => [.f]
  | .addHl _ | .loadHlSp _ => [.h, .l, .f]
  | .rotateR8 _ o => .f :: o.registers
  | .resetR8 _ o | .setR8 _ o => o.registers
  | .secondTable op2 => tableTwoRegisters op2
  | _ => []

section
variable {rs : List Reg8} {x : Regs} {s : State}

theorem RegWrites.writeR8 (h : RegWrites rs x s.regs) {o : R8} (ho : o.registers ⊆ rs) (v : Byte) :
    RegWrites rs x (s.writeR8 o v).regs := by
  cases o with
  | atHl => simpa [State.writeR8] using h
  | b | c | d | e | h | l | a => exact h.set (ho (List.mem_singleton_self _)) v

theorem RegWrites.writePair (h : RegWrites rs x s.regs) {hi lo : Reg8} (hhi : hi ∈ rs) (hlo : lo ∈ rs) (v : Word) :
    RegWrites rs x (s.setPair hi lo v).regs :=
  (h.set hhi _).set hlo _

theorem RegWrites.writeR16 (h : RegWrites rs x s.regs) {o : R16} (ho : o.registers ⊆ rs) (v : Word) :
    RegWrites rs x (s.writeR16 o v).regs := by
  cases o with
  | sp => exact h
  | bc | de | hl => exact h.writePair (ho (by decide)) (ho (by decide)) v

theorem RegWrites.writeR16Stk (h : RegWrites rs x s.regs) {o : R16Stk} (ho : o.registers ⊆ rs) (v : Word) :
    RegWrites rs x (s.writeR16Stk o v).regs := by
  cases o with
  | bc | de | hl | af => exact h.writePair (ho (by decide)) (ho (by decide)) v

theorem RegWrites.indUpdate (h : RegWrites rs x s.regs) {p : IndAddr} (hp : p.registers ⊆ rs) :
    RegWrites rs x (s.indUpdate p).regs := by
  cases p with
  | bc | de => exact h
  | hlInc | hlDec => exact h.writePair (hp (by decide)) (hp (by decide)) _

theorem RegWrites.setReg (h : RegWrites rs x s.regs) {r : Reg8} (hr : r ∈ rs) (v : Byte) :
    RegWrites rs x (s.setReg r v).regs := h.set hr v

theorem RegWrites.retire (h : RegWrites rs x s.regs) (length cycles : Nat) :
    RegWrites rs x (s.retire length cycles).regs :=
  (State.retire_regs length cycles s).symm ▸ h

theorem RegWrites.jump (h : RegWrites rs x s.regs) (target : Word) (cycles : Nat) :
    RegWrites rs x (s.jump target cycles).regs :=
  (State.jump_regs target cycles s).symm ▸ h

theorem RegWrites.setFlags (h : RegWrites rs x s.regs) (hf : .f ∈ rs) {w : Nat} (sel : Selector) (r : AluResult w) :
    RegWrites rs x (s.setFlags sel r).regs := h.set hf _

end

theorem RegWrites.aluFinish (k : AluOp) (r : AluResult 8) (s : State) :
    RegWrites (if k.writesA then [.a, .f] else [.f]) s.regs (s.aluFinish k r).regs := by
  unfold State.aluFinish
  cases k.writesA
  · exact .setFlags .refl (by decide) _ _
  · exact .setFlags (.setReg .refl (by decide) _) (by decide) _ _

theorem RegWrites.secondTable (op2 : Byte) (s : State) :
    RegWrites (tableTwoRegisters op2) s.regs (secondTable op2 s).regs := by
  unfold Machine.secondTable tableTwoRegisters
  match (fieldX op2).toNat with
  | 0 =>
    exact ((RegWrites.refl.writeR8 (List.subset_cons_self _ _) _).setFlags List.mem_cons_self _ _).retire _ _
  | 1 => exact (RegWrites.refl.setFlags (List.mem_singleton_self _) _ _).retire _ _
  | 2 | _ + 3 => exact (RegWrites.refl.writeR8 (List.Subset.refl _) _).retire _ _

@[simp] theorem State.busWrite16_regs (a v : Word) (s : State) : (s.busWrite16 a v).regs = s.regs := by
  simp [State.busWrite16]

@[simp] theorem State.pushWord_regs (v : Word) (s : State) : (s.pushWord v).regs = s.regs := by
  simp [State.pushWord]

/-- Both ends of a conditional operation leave the registers. -/
theorem RegWrites.ite_jump_retire {x : Regs} {s t : State} {c : Bool} (ht : t.regs = x) (hs : s.regs = x) (target : Word)
    (extra length cycles : Nat) :
    RegWrites [] x (if c then t.jump target extra else s.retire length cycles).regs := by
  cases c <;> simp [ht, hs, RegWrites.refl]

/-- A shared operation writes its registers and no other. -/
theorem SharedOp.run_regWrites (op : SharedOp) (s : State) : RegWrites op.registers s.regs (op.run s).regs := by
  have start : ∀ {rs}, RegWrites rs s.regs s.regs := .refl
  cases op with
  | loadR8 | loadN8 | resetR8 | setR8 => exact (start.writeR8 (List.Subset.refl _) _).retire _ _
  | loadR16 | incrementR16 | decrementR16 => exact (start.writeR16 (List.Subset.refl _) _).retire _ _
  | loadIndirect p =>
    have access := start.set (rs := .a :: p.registers) List.mem_cons_self (s.busRead (s.indAddress p))
    exact (RegWrites.indUpdate (s := s.setReg .a _) access (List.subset_cons_self _ _)).retire _ _
  | storeIndirect p =>
    have access : RegWrites p.registers s.regs (s.busWrite (s.indAddress p) (s.reg .a)).regs := by simp [start]
    exact (access.indUpdate (List.Subset.refl _)).retire _ _
  | loadAbsolute | loadHighN8 | loadHighC => exact (start.set (List.mem_singleton_self _) _).retire _ _
  | popR16 o => exact (RegWrites.writeR16Stk (s := s.dropWord) start (List.Subset.refl _) _).retire _ _
  | aluR8 | aluN8 => exact (RegWrites.aluFinish _ _ s).retire _ _
  | incrementR8 o | decrementR8 o =>
    exact ((start.writeR8 (List.subset_append_left _ _) _).setFlags (by simp) _ _).retire _ _
  | rotateR8 k o => exact ((start.writeR8 (List.subset_cons_self _ _) _).setFlags List.mem_cons_self _ _).retire _ _
  | decimalAdjust | complementA | rotateA =>
    refine .retire (.setFlags (.setReg start ?_ _) ?_ _ _) _ _ <;> simp [SharedOp.registers]
  | setCarry | complementCarry => exact .retire (.setFlags start (by decide) _ _) _ _
  | testR8 => exact .retire (.setFlags start (List.mem_singleton_self _) _ _) _ _
  | addSp =>
    refine .retire (.setFlags ?_ (List.mem_singleton_self _) _ _) _ _
    exact start
  | addHl | loadHlSp =>
    refine .retire (.setFlags (.writePair start ?_ ?_ _) ?_ _ _) _ _ <;> simp [SharedOp.registers]
  | secondTable op2 => exact .secondTable op2 s
  | jumpAbsoluteIf | jumpRelativeIf | callIf | returnIf => exact .ite_jump_retire (by simp) rfl _ _ _ _
  | enableInterrupts =>
    simp only [SharedOp.run, enableInterrupts_eq]
    split <;> exact start
  | storeAbsolute | storeHighN8 | storeHighC | storeSp | pushR16 | loadSpHl | noOperation | disableInterrupts | haltCpu =>
    refine .retire ?_ _ _
    simp [SharedOp.registers, start]
  | jumpAbsolute | jumpHl | jumpRelative | callAbsolute | restart | returnCpu | returnInterrupt =>
    refine .jump ?_ _ _
    simp [SharedOp.registers, start]
  | stopCpu | illegalByte => exact start

/-! ### The flags -/

/-- The flags a selector takes from elsewhere than F, as a mask of F (R17). -/
def Selector.mask (sel : Selector) : Byte :=
  flagByte (sel.z != .keep) (sel.n != .keep) (sel.h != .keep) (sel.c != .keep)

/-- `f'` has the flags of `f` where the mask has none (R28). -/
def FlagsKept (mask f f' : Byte) : Prop := (f' ^^^ f) &&& 0xF0 &&& ~~~mask = 0

theorem FlagsKept.of_eq (mask : Byte) {f f' : Byte} (h : f' = f) : FlagsKept mask f f' := by
  simp [FlagsKept, h]

/-- Every flag may have changed. -/
theorem FlagsKept.all (f f' : Byte) : FlagsKept 0xF0 f f' := by
  rw [FlagsKept, BitVec.and_assoc]
  exact BitVec.and_zero

/-- A flag that is not the current one is of the mask. -/
theorem FlagSource.pick_bne_keep (src : FlagSource) (alu now : Bool) : src.pick alu now ≠ now → src ≠ .keep := by
  rintro h rfl
  exact h rfl

theorem getElem_flagByte (z n h c : Bool) {i : Nat} (hi : i < 8) :
    (flagByte z n h c)[i] =
      (decide (7 = i) && z || decide (6 = i) && n || decide (5 = i) && h || decide (4 = i) && c) :=
  getLsbD_flagByte z n h c i

/-- F after an operation with a selector: bit by bit, a flag that changes is of the selector's mask. -/
theorem FlagsKept.flags {w : Nat} (sel : Selector) (r : AluResult w) (f : Byte) :
    FlagsKept sel.mask f (flags sel r f &&& 0xF0) := by
  unfold FlagsKept
  refine BitVec.eq_of_getLsbD_eq fun i hi => ?_
  obtain hlow | hflag := Nat.lt_or_ge i 4
  · interval_cases i <;> simp
  · interval_cases i <;>
      simpa [Machine.flags, Selector.mask, getElem_flagByte, flagZ, flagN, flagH, flagC] using
        FlagSource.pick_bne_keep _ _ _

/-- The flags a shared operation may change, as a mask of F. -/
def SharedOp.flags (op : SharedOp) : Byte :=
  match op with
  | .aluR8 k _ | .aluN8 k _ => k.selector.mask
  | .incrementR8 _ => selInc.mask
  | .decrementR8 _ => selDec.mask
  | .decimalAdjust => selDaa.mask
  | .complementA => selCpl.mask
  | .setCarry => selScf.mask
  | .complementCarry => selCcf.mask
  | .addHl _ => selAddHl.mask
  | .addSp _ | .loadHlSp _ => selSpE8.mask
  | .rotateA _ => selRotA.mask
  | .rotateR8 k _ => k.selector.mask
  | .testR8 _ _ => selBit.mask
  | .popR16 .af => 0xF0
  | .secondTable op2 =>
    match (fieldX op2).toNat with
    | 0 => (rotOpOfField (fieldY op2)).selector.mask
    | 1 => selBit.mask
    | _ => 0
  | _ => 0

@[simp] theorem State.writeR8_f (o : R8) (v : Byte) (s : State) : (s.writeR8 o v).reg .f = s.reg .f := by
  cases o <;> simp [State.writeR8, State.reg_eq, Regs.get_set]

/-- An operation that ends by setting F by a selector, F having been left alone until then. -/
theorem FlagsKept.setFlags {s t : State} (h : t.reg .f = s.reg .f) {w : Nat} (sel : Selector) (r : AluResult w)
    (length cycles : Nat) : FlagsKept sel.mask s.regs.f ((t.setFlags sel r).retire length cycles).regs.f := by
  have ht : t.regs.f = s.regs.f := h
  rw [State.retire_regs, ← ht]
  exact .flags sel r t.regs.f

theorem FlagsKept.aluFinish (k : AluOp) (r : AluResult 8) (s : State) (length cycles : Nat) :
    FlagsKept k.selector.mask s.regs.f ((s.aluFinish k r).retire length cycles).regs.f := by
  refine .setFlags ?_ k.selector r length cycles
  cases k.writesA <;> rfl

theorem FlagsKept.secondTable (op2 : Byte) (s : State) :
    FlagsKept (SharedOp.secondTable op2).flags s.regs.f (Machine.secondTable op2 s).regs.f := by
  have kept : ∀ t u : State, u.regs = t.regs → t.reg .f = s.reg .f → u.regs.f = s.regs.f := fun t u hu ht => by
    rw [hu]
    exact ht
  unfold Machine.secondTable SharedOp.flags
  dsimp only
  match (fieldX op2).toNat with
  | 0 => exact .setFlags (State.writeR8_f _ _ s) _ _ _ _
  | 1 => exact .setFlags rfl _ _ _ _
  | 2 | _ + 3 => exact .of_eq _ (kept _ _ (State.retire_regs _ _ _) (State.writeR8_f _ _ s))

/-- An operation that does not write F keeps every flag. -/
theorem FlagsKept.of_registers {op : SharedOp} (h : .f ∉ op.registers) (mask : Byte) (s : State) :
    FlagsKept mask s.regs.f (op.run s).regs.f := .of_eq mask ((op.run_regWrites s).get_eq h)

@[simp] theorem R8.f_notMem_registers (o : R8) : .f ∉ o.registers := by cases o <;> decide

@[simp] theorem R16.f_notMem_registers (o : R16) : .f ∉ o.registers := by cases o <;> decide

@[simp] theorem IndAddr.f_notMem_registers (p : IndAddr) : .f ∉ p.registers := by cases p <;> decide

/-- A shared operation keeps the flags it does not name. -/
theorem SharedOp.run_flagsKept (op : SharedOp) (s : State) : FlagsKept op.flags s.regs.f (op.run s).regs.f := by
  cases op with
  | aluR8 k | aluN8 k => exact .aluFinish k _ s _ _
  | incrementR8 | decrementR8 | rotateR8 => exact .setFlags (State.writeR8_f _ _ s) _ _ _ _
  | decimalAdjust | complementA | setCarry | complementCarry | addHl | addSp | loadHlSp | rotateA | testR8 =>
    exact .setFlags rfl _ _ _ _
  | secondTable op2 => exact .secondTable op2 s
  | popR16 o =>
    cases o with
    | af => exact .all _ _
    | bc | de | hl => exact .of_registers (by decide) _ s
  | _ => exact .of_registers (by simp [SharedOp.registers]) _ s

/-! ### SP (R26) -/

/-- Whether a shared operation may write SP. -/
def SharedOp.writesSp (op : SharedOp) : Bool :=
  match op with
  | .loadR16 .sp _ | .incrementR16 .sp | .decrementR16 .sp | .addSp _ | .loadSpHl => true
  | .pushR16 _ | .popR16 _ | .callAbsolute _ | .callIf _ _ | .restart _ => true
  | .returnCpu | .returnIf _ | .returnInterrupt => true
  | _ => false

@[simp] theorem State.writeR8_sp (o : R8) (v : Byte) (s : State) : (s.writeR8 o v).sp = s.sp := by
  cases o <;> simp [State.writeR8]

@[simp] theorem State.indUpdate_sp (p : IndAddr) (s : State) : (s.indUpdate p).sp = s.sp := by
  cases p <;> rfl

@[simp] theorem State.setFlags_sp {w : Nat} (sel : Selector) (r : AluResult w) (s : State) :
    (s.setFlags sel r).sp = s.sp := rfl

@[simp] theorem State.aluFinish_sp (k : AluOp) (r : AluResult 8) (s : State) : (s.aluFinish k r).sp = s.sp := by
  cases k <;> rfl

@[simp] theorem State.busWrite16_sp (a v : Word) (s : State) : (s.busWrite16 a v).sp = s.sp := by
  simp [State.busWrite16]

theorem secondTable_sp (op2 : Byte) (s : State) : (secondTable op2 s).sp = s.sp := by
  unfold secondTable
  match (fieldX op2).toNat with
  | 0 | 1 | 2 | _ + 3 => exact (State.retire_sp _ _ _).trans (by simp)

/-- An operation that does not write SP leaves it. -/
theorem SharedOp.run_sp {op : SharedOp} (h : op.writesSp = false) (s : State) : (op.run s).sp = s.sp := by
  cases op with
  | loadR16 o | incrementR16 o | decrementR16 o =>
    cases o with
    | sp => cases h
    | bc | de | hl => exact State.retire_sp _ _ _
  | loadR8 | loadN8 | loadIndirect | storeIndirect | loadAbsolute | storeAbsolute | loadHighN8 | storeHighN8
  | loadHighC | storeHighC | storeSp | aluR8 | aluN8 | incrementR8 | decrementR8 | decimalAdjust | complementA | setCarry
  | complementCarry | addHl | loadHlSp | rotateA | rotateR8 | testR8 | resetR8 | setR8 | noOperation | disableInterrupts
  | haltCpu =>
    exact (State.retire_sp _ _ _).trans (by simp)
  | jumpAbsolute | jumpHl | jumpRelative => exact State.jump_sp _ _ _
  | jumpAbsoluteIf | jumpRelativeIf =>
    simp [SharedOp.run, Machine.jumpAbsoluteIf, Machine.jumpRelativeIf, apply_ite State.sp]
  | secondTable op2 => exact secondTable_sp op2 s
  | enableInterrupts =>
    simp only [SharedOp.run, enableInterrupts_eq]
    split <;> rfl
  | stopCpu | illegalByte => rfl
  | loadSpHl | addSp | pushR16 | popR16 | callAbsolute | callIf | restart | returnCpu | returnIf | returnInterrupt => cases h

/-! ### A word's operation writes what the tables say -/

theorem sharedOp_tableTwoInstr_registers (b1 : Byte) : (sharedOp (tableTwoInstr b1)).registers = prefixedRegisters b1 := by
  revert b1
  refine forall_byte_of_forall_lt fun n hn => ?_
  interval_cases n <;> rfl

theorem sharedOp_decode3_registers (b0 b1 b2 : Byte) :
    (sharedOp (decode3 b0 b1 b2)).registers = registersWritten b0 b1 := by
  revert b0
  refine forall_byte_of_cells (fun k hk => ?_) (sharedOp_tableTwoInstr_registers b1) fun k hk hk' => ?_ <;>
    interval_cases k <;> rfl

theorem sharedOp_tableTwoInstr_flags (b1 : Byte) : (sharedOp (tableTwoInstr b1)).flags = flagsWritten 0xCB b1 := by
  revert b1
  refine forall_byte_of_forall_lt fun n hn => ?_
  interval_cases n <;> rfl

theorem sharedOp_decode3_flags (b0 b1 b2 : Byte) : (sharedOp (decode3 b0 b1 b2)).flags = flagsWritten b0 b1 := by
  revert b0
  refine forall_byte_of_cells (fun k hk => ?_) (sharedOp_tableTwoInstr_flags b1) fun k hk hk' => ?_ <;>
    interval_cases k <;> rfl

theorem sharedOp_tableTwoInstr_writesSp (b1 : Byte) : (sharedOp (tableTwoInstr b1)).writesSp = false := by
  revert b1
  refine forall_byte_of_forall_lt fun n hn => ?_
  interval_cases n <;> rfl

theorem sharedOp_decode3_writesSp (b0 b1 b2 : Byte) :
    (sharedOp (decode3 b0 b1 b2)).writesSp = spWriters.contains b0 := by
  revert b0
  refine forall_byte_of_cells (fun k hk => ?_) (sharedOp_tableTwoInstr_writesSp b1) fun k hk hk' => ?_ <;>
    interval_cases k <;> rfl

/-- Settles O33: a word's operation writes the registers, flags and SP that the tables give the word, and no others. -/
theorem registerFrame : Obligations.RegisterFrame := by
  unfold Obligations.RegisterFrame
  intro b0 b1 b2 s t h
  rw [exec_sharedOp, Host.Outcome.next.injEq] at h
  subst h
  rw [← sharedOp_decode3_registers b0 b1 b2, ← sharedOp_decode3_flags b0 b1 b2]
  refine ⟨fun r hr => (SharedOp.run_regWrites _ s).get_eq hr, SharedOp.run_flagsKept _ s, fun hsp => ?_⟩
  refine SharedOp.run_sp ?_ s
  rw [sharedOp_decode3_writesSp]
  simpa using hsp

end Sys2Proof.Machine
end

section
/-! PROOFS. The invariant of the whole machine (spec 10_state.md R22, R33, R34, R40, R41, R44, R52 to R54;
60_exceptions.md R249 to R254, R269): the display's part of it along a frame and through register writes, the other
devices' through the cycle, and the CPU's through every action. -/

namespace Sys2Proof.Machine

/-! ### What the invariant says of the display -/

/-- What the display's part of the invariant speaks of: LCDC bit 7, the display's state, the frame's origin, the
window's row counter, LY, LYC, and of STAT the mode and the comparison bit. -/
structure DisplayPart where
  enabled : Bool
  power : LcdState
  origin : Nat
  winLine : Nat
  ly : Byte
  lyc : Byte
  mode : BitVec 2
  same : Bool

/-- The display's part of the LCD controller. -/
def Lcd.displayPart (l : Lcd) : DisplayPart where
  enabled := l.lcdc.getLsbD 7
  power := l.power
  origin := l.lineOrigin
  winLine := l.winLine
  ly := l.ly
  lyc := l.lyc
  mode := l.mode
  same := l.stat.getLsbD 2

/-- The display as it stands after its step at place `p` of a frame (R249, R250, R252, R259). -/
structure DisplayPart.At (d : DisplayPart) (p : Nat) : Prop where
  line : d.ly = BitVec.ofNat 8 (p / 114)
  mode : d.mode = modeOfPlace p
  same : d.same = decide (d.ly = d.lyc)
  window : d.winLine ≤ linesRendered p

/-- The display is off (R253), or has not stepped since it was turned on (R254), or stands where its last step left
it (R250). -/
inductive DisplayPart.Phase (cycle : Nat) (d : DisplayPart) : Prop where
  | off (hpower : d.power = .off) (hly : d.ly = 0) (hmode : d.mode = 0) (hsame : d.same = decide (d.ly = d.lyc))
  | fresh (hpower : d.power = .on) (horigin : d.origin = cycle) (hly : d.ly = 0) (hmode : d.mode = 0)
  | stepped (hpower : d.power = .on) (horigin : d.origin < cycle) (hat : d.At ((cycle - 1 - d.origin) % 17556))

/-- The display's part of the invariant, at a cycle. -/
structure DisplayPart.Inv (cycle : Nat) (d : DisplayPart) : Prop where
  origin : d.origin ≤ cycle
  power : d.power = .on ↔ d.enabled = true
  window : d.winLine ≤ 144
  phase : d.Phase cycle

/-- The display's part of the invariant, phase by phase. -/
theorem State.displayInv_iff (s : State) : s.DisplayInv ↔ s.lcd.displayPart.Inv s.cycle := by
  constructor
  · intro h
    refine ⟨h.origin, h.power, h.window, ?_⟩
    cases hpower : s.lcd.power with
    | off => exact .off hpower (h.off hpower).1 (h.off hpower).2 (h.compare (.inl hpower))
    | on =>
      obtain horigin | horigin := h.origin.eq_or_lt
      · exact .fresh hpower horigin (h.fresh hpower horigin).1 (h.fresh hpower horigin).2
      · have hstepped : s.stepped := ⟨hpower, horigin⟩
        exact .stepped hpower horigin
          ⟨h.line hstepped, h.mode hstepped, h.compare (.inr hstepped), h.windowLines hstepped⟩
  · rintro ⟨horigin, hpower, hwindow, hphase⟩
    cases hphase with
    | off hoff hly hmode hsame =>
      have hnot : s.lcd.power ≠ .on := by rw [show s.lcd.power = .off from hoff]; decide
      have hnot' : ¬ s.stepped := fun h => hnot h.1
      exact ⟨horigin, hpower, fun _ => ⟨hly, hmode⟩, fun h => absurd h hnot, fun h => absurd h hnot',
        fun h => absurd h hnot', fun _ => hsame, hwindow, fun h => absurd h hnot'⟩
    | fresh hon heq hly hmode =>
      have hnot : s.lcd.power ≠ .off := by rw [show s.lcd.power = .on from hon]; decide
      have hnot' : ¬ s.stepped := fun h => Nat.lt_irrefl _ (heq ▸ h.2)
      exact ⟨horigin, hpower, fun h => absurd h hnot, fun _ _ => ⟨hly, hmode⟩, fun h => absurd h hnot',
        fun h => absurd h hnot', fun h => absurd h (not_or.mpr ⟨hnot, hnot'⟩), hwindow, fun h => absurd h hnot'⟩
    | stepped hon hlt hat =>
      have hnot : s.lcd.power ≠ .off := by rw [show s.lcd.power = .on from hon]; decide
      exact ⟨horigin, hpower, fun h => absurd h hnot, fun _ h => absurd h hlt.ne, fun _ => hat.line,
        fun _ => hat.mode, fun _ => hat.same, hwindow, fun _ => hat.window⟩

/-! ### The controller's operations on the display's part -/

section
variable (stat : Byte)

theorem extractLsb'_withMode (m : BitVec 2) : ((stat &&& 0xFC) ||| m.setWidth 8).extractLsb' 0 2 = m := by
  refine BitVec.eq_of_getLsbD_eq fun i hi => ?_
  interval_cases i <;> simp

theorem getLsbD_two_withMode (m : BitVec 2) : ((stat &&& 0xFC) ||| m.setWidth 8).getLsbD 2 = stat.getLsbD 2 := by
  simp

theorem extractLsb'_withSame (p : Prop) [Decidable p] :
    ((stat &&& 0xFB) ||| (if p then 4 else 0)).extractLsb' 0 2 = stat.extractLsb' 0 2 := by
  refine BitVec.eq_of_getLsbD_eq fun i hi => ?_
  interval_cases i <;> split <;> simp

theorem getLsbD_two_withSame (p : Prop) [Decidable p] :
    ((stat &&& 0xFB) ||| (if p then 4 else 0)).getLsbD 2 = decide p := by
  by_cases h : p <;> simp [h]

/-- A write to STAT keeps its low three bits (R41). -/
theorem extractLsb'_writeStat (v : Byte) :
    ((v &&& 0xF8) ||| (stat &&& 0x07)).extractLsb' 0 2 = stat.extractLsb' 0 2 := by
  refine BitVec.eq_of_getLsbD_eq fun i hi => ?_
  interval_cases i <;> simp

theorem getLsbD_two_writeStat (v : Byte) : ((v &&& 0xF8) ||| (stat &&& 0x07)).getLsbD 2 = stat.getLsbD 2 := by
  simp

end

theorem State.enterMode_displayPart (m : BitVec 2) (s : State) :
    (s.enterMode m).lcd.displayPart = { s.lcd.displayPart with mode := m } := by
  rw [State.enterMode_eq]
  simp only [Lcd.displayPart, Lcd.mode, extractLsb'_withMode, getLsbD_two_withMode]

theorem State.lycCompare_displayPart (s : State) :
    s.lycCompare.lcd.displayPart = { s.lcd.displayPart with same := decide (s.lcd.ly = s.lcd.lyc) } := by
  rw [State.lycCompare_eq]
  simp only [Lcd.displayPart, Lcd.mode, extractLsb'_withSame, getLsbD_two_withSame]

theorem State.clearWinLine_displayPart (s : State) :
    s.clearWinLine.lcd.displayPart = { s.lcd.displayPart with winLine := 0 } := rfl

theorem State.finishFrame_displayPart (s : State) : s.finishFrame.lcd.displayPart = s.lcd.displayPart := rfl

theorem State.renderLine_displayPart (ln : Nat) (s : State) :
    (s.renderLine ln).lcd.displayPart =
      { s.lcd.displayPart with
        winLine := if windowVisible s.lcd ln then s.lcd.winLine + 1 else s.lcd.winLine } := rfl

/-! ### A step of the display (R249, R250) -/

theorem linesRendered_eq (p : Nat) : linesRendered p = min 144 ((p + 94) / 114) := by
  unfold linesRendered Config.visibleLines Config.lineCycles Config.n0 Config.n2 Config.n3
  split <;> omega

theorem linesRendered_le (p : Nat) : linesRendered p ≤ 144 := Nat.min_le_left _ _

theorem linesRendered_le_succ (q : Nat) : linesRendered q ≤ linesRendered (q + 1) := by
  rw [linesRendered_eq, linesRendered_eq]
  omega

/-- A visible line is rendered at its cycle 20 (R250, R256). -/
theorem linesRendered_lt_succ {q : Nat} (hline : (q + 1) / 114 < 144) (hcycle : (q + 1) % 114 = 20) :
    linesRendered q < linesRendered (q + 1) := by
  rw [linesRendered_eq, linesRendered_eq]
  omega

theorem modeOfPlace_eq (p : Nat) :
    modeOfPlace p = if 144 ≤ p / 114 then 1 else if p % 114 < 20 then 2 else if p % 114 < 63 then 3 else 0 := rfl

theorem modeOfPlace_vblank {p : Nat} (h : 144 ≤ p / 114) : modeOfPlace p = 1 := by
  rw [modeOfPlace_eq, if_pos h]

theorem modeOfPlace_scan {p : Nat} (h : p / 114 < 144) (hcycle : p % 114 < 20) : modeOfPlace p = 2 := by
  rw [modeOfPlace_eq, if_neg (by omega), if_pos hcycle]

theorem modeOfPlace_transfer {p : Nat} (h : p / 114 < 144) (hcycle : 20 ≤ p % 114) (hcycle' : p % 114 < 63) :
    modeOfPlace p = 3 := by
  rw [modeOfPlace_eq, if_neg (by omega), if_neg (by omega), if_pos hcycle']

theorem modeOfPlace_hblank {p : Nat} (h : p / 114 < 144) (hcycle : 63 ≤ p % 114) : modeOfPlace p = 0 := by
  rw [modeOfPlace_eq, if_neg (by omega), if_neg (by omega), if_neg (by omega)]

/-- Between the cycles at which the state machine acts the mode stays. -/
theorem modeOfPlace_succ {q : Nat} (hstart : (q + 1) % 114 ≠ 0)
    (hbetween : (q + 1) % 114 ≠ 20 ∧ (q + 1) % 114 ≠ 63 ∨ 144 ≤ (q + 1) / 114) :
    modeOfPlace (q + 1) = modeOfPlace q := by
  obtain hvblank | hvisible := le_or_gt 144 ((q + 1) / 114)
  · rw [modeOfPlace_vblank hvblank, modeOfPlace_vblank (by omega)]
  · have hline : (q + 1) / 114 = q / 114 := by omega
    have hscan : (q + 1) % 114 < 20 ↔ q % 114 < 20 := by omega
    have htransfer : (q + 1) % 114 < 63 ↔ q % 114 < 63 := by omega
    simp only [modeOfPlace_eq, hline, hscan, htransfer]

/-- Every line starts with LY set and compared, and in the mode of its first cycle; line 0 clears the window's row
counter, and the lines of the V-blank band after its first stay in the mode they find. -/
theorem State.startLine_displayPart (ln : Nat) (s : State) :
    (s.startLine ln).lcd.displayPart =
      { s.lcd.displayPart with
        ly := BitVec.ofNat 8 ln
        same := decide (BitVec.ofNat 8 ln = s.lcd.lyc)
        winLine := if ln = 0 then 0 else s.lcd.winLine
        mode := if ln < 144 then 2 else if ln = 144 then 1 else s.lcd.mode } := by
  have hcompare := (s.setLy ln).lycCompare_displayPart
  obtain rfl | ⟨h, h'⟩ | rfl | h : ln = 0 ∨ (0 < ln ∧ ln < 144) ∨ ln = 144 ∨ 144 < ln := by omega
  · rw [s.startLine_first, State.enterMode_displayPart, State.clearWinLine_displayPart, hcompare]
    rfl
  · rw [s.startLine_visible h h', State.enterMode_displayPart, hcompare, if_neg h.ne', if_pos h']
    rfl
  · rw [s.startLine_vblank, State.enterMode_displayPart, State.finishFrame_displayPart, hcompare]
    rfl
  · rw [s.startLine_below h, hcompare, if_neg (by omega), if_neg (by omega), if_neg (by omega)]
    rfl

/-- A step at a line's first cycle, the frame's first or any other. -/
theorem State.startLine_at {s : State} {p : Nat} (hstart : p % 114 = 0)
    (hp : p = 0 ∨ ∃ q, p = q + 1 ∧ s.lcd.displayPart.At q) : (s.startLine (p / 114)).lcd.displayPart.At p := by
  rw [State.startLine_displayPart]
  obtain rfl | ⟨q, rfl, hat⟩ := hp
  · exact ⟨rfl, rfl, rfl, Nat.zero_le _⟩
  · refine ⟨rfl, ?_, rfl, ?_⟩ <;> dsimp only
    · split_ifs with hvisible hfirst
      · exact (modeOfPlace_scan hvisible (by omega)).symm
      · exact (modeOfPlace_vblank hfirst.ge).symm
      · rw [show s.lcd.mode = modeOfPlace q from hat.mode, modeOfPlace_vblank (by omega), modeOfPlace_vblank (by omega)]
    · rw [if_neg (by omega)]
      exact hat.window.trans (linesRendered_le_succ q)

/-- The display's step at any other cycle of a line. -/
theorem State.ppuStep_at_succ {s : State} {q : Nat} (hplace : s.framePlace = q + 1) (hstart : (q + 1) % 114 ≠ 0)
    (hat : s.lcd.displayPart.At q) : s.ppuStep.lcd.displayPart.At (q + 1) := by
  have hframe : s.frameLine = (q + 1) / 114 := by rw [State.frameLine, hplace]
  have hcycle : s.lineCycle = (q + 1) % 114 := by rw [State.lineCycle, hplace]
  obtain ⟨hly, hmode, hsame, hwindow⟩ := hat
  have hline : s.lcd.displayPart.ly = BitVec.ofNat 8 ((q + 1) / 114) := by
    rw [hly]
    congr 1
    omega
  have hrendered := hwindow.trans (linesRendered_le_succ q)
  by_cases htransfer : (q + 1) / 114 < 144 ∧ (q + 1) % 114 = 20
  · obtain ⟨hvisible, h20⟩ := htransfer
    rw [State.ppuStep_transfer (hframe ▸ hvisible) (hcycle.trans h20), State.enterMode_displayPart,
      State.renderLine_displayPart]
    refine ⟨hline, (modeOfPlace_transfer hvisible h20.ge (by omega)).symm, hsame, ?_⟩
    have hlt := linesRendered_lt_succ hvisible h20
    dsimp only
    split
    · exact Nat.succ_le_of_lt (hwindow.trans_lt hlt)
    · exact hrendered
  by_cases hblank : (q + 1) / 114 < 144 ∧ (q + 1) % 114 = 63
  · obtain ⟨hvisible, h63⟩ := hblank
    rw [State.ppuStep_hblank (hframe ▸ hvisible) (hcycle.trans h63), State.enterMode_displayPart]
    exact ⟨hline, (modeOfPlace_hblank hvisible h63.ge).symm, hsame, hrendered⟩
  · have hbetween : (q + 1) % 114 ≠ 20 ∧ (q + 1) % 114 ≠ 63 ∨ 144 ≤ (q + 1) / 114 := by omega
    rw [State.ppuStep_between (hcycle ▸ hstart) (by rwa [hcycle, hframe])]
    exact ⟨hline, hmode.trans (modeOfPlace_succ hstart hbetween).symm, hsame, hrendered⟩

/-- The display's step brings it to the next place of its frame, from the place before or from anywhere at the frame's
first place. -/
theorem State.ppuStep_at {s : State} (hp : s.framePlace = 0 ∨ ∃ q, s.framePlace = q + 1 ∧ s.lcd.displayPart.At q) :
    s.ppuStep.lcd.displayPart.At s.framePlace := by
  by_cases hstart : s.framePlace % 114 = 0
  · rw [State.ppuStep_lineStart hstart]
    exact State.startLine_at hstart hp
  · obtain ⟨q, hplace, hat⟩ := hp.resolve_left fun h => hstart (by rw [h])
    rw [hplace] at hstart ⊢
    exact State.ppuStep_at_succ hplace hstart hat

/-- The display's step leaves LCDC, the display's state, the origin and LYC. -/
theorem State.ppuStep_displayPart (s : State) :
    ∃ winLine ly mode same, s.ppuStep.lcd.displayPart =
      { s.lcd.displayPart with winLine := winLine, ly := ly, mode := mode, same := same } := by
  rw [State.ppuStep_eq]
  split_ifs
  · exact ⟨_, _, _, _, s.startLine_displayPart _⟩
  · rw [State.enterMode_displayPart, State.renderLine_displayPart]
    exact ⟨_, _, _, _, rfl⟩
  · rw [State.enterMode_displayPart]
    exact ⟨_, _, _, _, rfl⟩
  · exact ⟨_, _, _, _, rfl⟩

/-- A step of the display from anywhere the invariant allows it to be. -/
theorem DisplayPart.Inv.ppuStep {s : State} (h : s.lcd.displayPart.Inv s.cycle) (hon : s.lcd.power = .on) :
    s.ppuStep.lcd.displayPart.Inv (s.cycle + 1) := by
  obtain ⟨horigin, hpower, hwindow, hphase⟩ := h
  have hplace : s.framePlace = (s.cycle - s.lcd.displayPart.origin) % 17556 := rfl
  have hat : s.ppuStep.lcd.displayPart.At s.framePlace := by
    refine State.ppuStep_at ?_
    cases hphase with
    | off hoff => cases hon.symm.trans hoff
    | fresh _ hfresh => exact .inl (by omega)
    | stepped _ hlt hat =>
      have hnext : s.framePlace = 0 ∨ s.framePlace = (s.cycle - 1 - s.lcd.displayPart.origin) % 17556 + 1 := by omega
      exact hnext.imp_right fun e => ⟨_, e, hat⟩
  obtain ⟨winLine, ly, mode, same, e⟩ := s.ppuStep_displayPart
  rw [e] at hat ⊢
  exact ⟨Nat.le_succ_of_le horigin, hpower, hat.window.trans (linesRendered_le _),
    .stepped hon (Nat.lt_succ_of_le horigin) (by rwa [hplace] at hat)⟩

/-- A cycle with the display off. -/
theorem DisplayPart.Inv.off {d : DisplayPart} {cycle : Nat} (h : d.Inv cycle) (hoff : d.power = .off) :
    d.Inv (cycle + 1) := by
  obtain ⟨horigin, hpower, hwindow, hphase⟩ := h
  refine ⟨Nat.le_succ_of_le horigin, hpower, hwindow, ?_⟩
  cases hphase with
  | off _ hly hmode hsame => exact .off hoff hly hmode hsame
  | fresh hon => cases hoff.symm.trans hon
  | stepped hon => cases hoff.symm.trans hon

/-! ### The devices' steps (R221) -/

theorem timerStep_lcd (s : State) : (timerStep s).lcd = s.lcd := by
  obtain ⟨x, f, e⟩ := timerStep_changes s
  rw [e]

theorem dmaStep_lcd (s : State) : (dmaStep s).lcd = s.lcd := by
  obtain ⟨d, m, e⟩ := dmaStep_changes s
  rw [e]

theorem deviceStep_displayInv {s : State} (h : s.lcd.displayPart.Inv s.cycle) :
    (deviceStep s).lcd.displayPart.Inv (s.cycle + 1) := by
  have hlcd : (dmaStep (timerStep s)).lcd = s.lcd := (dmaStep_lcd _).trans (timerStep_lcd s)
  have hcycle : (dmaStep (timerStep s)).cycle = s.cycle :=
    congrArg CpuPart.cycle ((dmaStep_cpuPart _).trans (timerStep_cpuPart s))
  obtain ⟨hoff, e⟩ | ⟨hon, e⟩ := lcdStep_cases (timerStep s) <;> rw [deviceStep, e]
  · rw [hlcd]
    exact h.off (by rwa [timerStep_lcd] at hoff)
  · rw [← hlcd, ← hcycle] at h
    rw [← hcycle]
    exact h.ppuStep (by rwa [hlcd, ← timerStep_lcd])

/-! ### Register writes keep the display's part (R253 to R255) -/

theorem State.writeStat_displayPart (v : Byte) (s : State) : (s.writeStat v).lcd.displayPart = s.lcd.displayPart := by
  simp only [State.writeStat, Lcd.displayPart, Lcd.mode, extractLsb'_writeStat, getLsbD_two_writeStat]

/-- LYC written and compared at once (R252). -/
theorem DisplayPart.Inv.writeLyc {d : DisplayPart} {cycle : Nat} (h : d.Inv cycle) (v : Byte) :
    DisplayPart.Inv cycle { d with lyc := v, same := decide (d.ly = v) } := by
  obtain ⟨horigin, hpower, hwindow, hphase⟩ := h
  refine ⟨horigin, hpower, hwindow, ?_⟩
  cases hphase with
  | off hoff hly hmode => exact .off hoff hly hmode rfl
  | fresh hon heq hly hmode => exact .fresh hon heq hly hmode
  | stepped hon hlt hat => exact .stepped hon hlt ⟨hat.line, hat.mode, rfl, hat.window⟩

/-- Turning the display off clears LY and the mode and compares (R253). -/
theorem State.displayOff_displayPart (s : State) :
    s.displayOff.lcd.displayPart =
      { s.lcd.displayPart with power := .off, ly := 0, mode := 0, same := decide (0 = s.lcd.lyc) } := by
  rw [State.displayOff, State.lycCompare_displayPart]
  have hmode : (statWithMode s.lcd.stat 0).extractLsb' 0 2 = 0 := extractLsb'_withMode s.lcd.stat 0
  simp only [State.setMode, Lcd.displayPart, Lcd.mode, hmode]
  rfl

theorem State.writeLcdc_same_displayPart {s : State} {v : Byte} (h : s.lcd.lcdc.getLsbD 7 = v.getLsbD 7) :
    (s.writeLcdc v).lcd.displayPart = s.lcd.displayPart := by
  rw [State.writeLcdc_same h]
  simp only [Lcd.displayPart, Lcd.mode, h]

section
variable {s : State} (h : s.lcd.displayPart.Inv (s.cycle + 1)) (v : Byte)
include h

/-- A write to LCDC by its bit 7 before and after (R253, R254). Where it turns the display on, the display was off, so
LY and the mode are 0. -/
theorem State.writeLcdc_displayInv : (s.writeLcdc v).lcd.displayPart.Inv (s.cycle + 1) := by
  cases hbefore : s.lcd.lcdc.getLsbD 7 <;> cases hafter : v.getLsbD 7
  case true.false =>
    rw [State.writeLcdc_off (by rw [hbefore, hafter]; rfl), State.displayOff_displayPart]
    exact ⟨h.origin, iff_of_false nofun (Bool.eq_false_iff.mp hafter), h.window, .off rfl rfl rfl rfl⟩
  case false.true =>
    rw [State.writeLcdc_on (by rw [hbefore, hafter]; rfl)]
    have hnot : s.lcd.displayPart.power ≠ .on := fun hon => Bool.eq_false_iff.mp hbefore (h.power.mp hon)
    refine ⟨Nat.le_refl _, iff_of_true rfl hafter, h.window, ?_⟩
    cases h.phase with
    | off _ hly hmode => exact .fresh rfl rfl hly hmode
    | fresh hon | stepped hon => exact absurd hon hnot
  all_goals
    rw [State.writeLcdc_same_displayPart (hbefore.trans hafter.symm)]
    exact h

theorem State.lcdRegWrite_displayInv (n : Nat) : (s.lcdRegWrite n v).lcd.displayPart.Inv (s.cycle + 1) := by
  unfold State.lcdRegWrite
  split
  case h_1 => exact State.writeLcdc_displayInv h v
  case h_2 =>
    rw [State.writeStat_displayPart]
    exact h
  case h_5 =>
    rw [State.writeLyc, State.lycCompare_displayPart]
    exact h.writeLyc v
  all_goals exact h

end

/-! ### The devices' part of the invariant through the CPU's bus writes -/

/-- What a bus write can do: outside the LCD controller's registers it changes memory, the cartridge, the joypad, IE and
the overlay, which it may turn off but not on (R52), or it writes IF, or it is the timer's write; and at a register of
the LCD controller it is that one's write (R61, R63). -/
theorem State.busWrite_cases (a : Word) (v : Byte) (s : State) :
    (s.lcdRegWrite a.toNat v = s ∧
      ((∃ m c j e b, (b = true → s.bootRomEnabled = true) ∧
          s.busWrite a v = { s with mem := m, cartridge := c, joypad := j, ie := e, bootRomEnabled := b }) ∨
        (a = 0xFF0F ∧ s.busWrite a v = { s with iflag := v }) ∨ s.busWrite a v = s.timerWrite a.toNat v)) ∨
      s.busWrite a v = s.lcdRegWrite a.toNat v := by
  have hother : a.toNat < 0xFF40 ∨ 0xFF4B < a.toNat → s.lcdRegWrite a.toNat v = s := s.lcdRegWrite_other v
  obtain ha | ha | ⟨ha, ha'⟩ | ha | ⟨ha, ha'⟩ := address_cases a.toNat
  · refine .inl ⟨hother (by rw [inCartridge_iff] at ha; omega), .inl ?_⟩
    rw [State.busWrite_cartridge v s ha, State.cartridgeWrite]
    split <;> exact ⟨_, _, _, _, _, id, rfl⟩
  · refine .inl ⟨hother (by rw [inLcdMemory_iff] at ha; omega), .inl ?_⟩
    exact ⟨_, _, _, _, _, id, State.busWrite_lcdMemory v s ha⟩
  · exact .inl ⟨hother (by omega), .inl ⟨_, _, _, _, _, id, State.busWrite_workRam v s ha ha'⟩⟩
  · refine .inl ⟨hother (by rw [inHighRam_iff] at ha; omega), .inl ?_⟩
    exact ⟨_, _, _, _, _, id, State.busWrite_highRam v s ha⟩
  · rw [State.busWrite_register v s ha ha']
    split_ifs with hoverlay hjoypad hiflag hie htimer
    · exact .inl ⟨hother (by omega), .inl ⟨_, _, _, _, false, nofun, rfl⟩⟩
    · exact .inl ⟨hother (by omega), .inl ⟨_, _, _, _, _, id, rfl⟩⟩
    · exact .inl ⟨hother (by omega), .inr (.inl ⟨BitVec.eq_of_toNat_eq hiflag, rfl⟩)⟩
    · exact .inl ⟨hother (by omega), .inl ⟨_, _, _, _, _, id, rfl⟩⟩
    · exact .inl ⟨hother (by omega), .inr (.inr rfl)⟩
    · exact .inr rfl

/-- A bus write reaches the LCD controller and the DMA engine only as the register write at its address, and it never
turns the overlay on. -/
theorem State.busWrite_lcd_dma_overlay (a : Word) (v : Byte) (s : State) :
    (s.busWrite a v).lcd = (s.lcdRegWrite a.toNat v).lcd ∧ (s.busWrite a v).dma = (s.lcdRegWrite a.toNat v).dma ∧
      ((s.busWrite a v).bootRomEnabled = true → s.bootRomEnabled = true) := by
  obtain ⟨hself, ⟨m, c, j, e, b, hb, hw⟩ | ⟨-, hw⟩ | hw⟩ | hw := s.busWrite_cases a v
  · rw [hw, hself]
    exact ⟨rfl, rfl, hb⟩
  · rw [hw, hself]
    exact ⟨rfl, rfl, id⟩
  · obtain ⟨x, f, htimer, -⟩ := s.timerWrite_changes a.toNat v
    rw [hw, hself, htimer]
    exact ⟨rfl, rfl, id⟩
  · obtain ⟨y, d, f, hlcd, -⟩ := s.lcdRegWrite_changes a.toNat v
    rw [hw]
    exact ⟨rfl, rfl, fun h => by rwa [hlcd] at h⟩

/-- What R54 says of the DMA engine. -/
structure Dma.Inv (d : Dma) : Prop where
  index : d.index ≤ Config.dmaLength ∧ (d.active = true → d.index < Config.dmaLength)
  source : lo8 d.source = 0

/-- The devices' part of the invariant, before the cycle is counted. -/
structure DevicePart.Inv (p : DevicePart) : Prop where
  memory : p.mem.wf = true
  overlay : p.bootRomEnabled = true → p.bootRom.isSome = true
  dma : p.dma.Inv
  display : p.lcd.displayPart.Inv (p.cycle + 1)

/-- A write to the DMA register starts a copy at index 0 of a page (R268); the other registers leave the engine. -/
theorem State.lcdRegWrite_dmaInv {s : State} (h : s.dma.Inv) (n : Nat) (v : Byte) : (s.lcdRegWrite n v).dma.Inv := by
  unfold State.lcdRegWrite
  split
  case h_1 =>
    obtain ⟨stat, ly, power, origin, f, e⟩ := s.writeLcdc_changes v
    rw [e]
    exact h
  case h_5 =>
    obtain ⟨stat, f, e⟩ := State.lycCompare_changes { s with lcd := { s.lcd with lyc := v } }
    rw [State.writeLyc, e]
    exact h
  case h_6 => exact ⟨⟨Nat.zero_le _, fun _ => Nat.succ_pos 159⟩, lo8_make16 v 0⟩
  all_goals exact h

theorem State.busWrite_devicePartInv {s : State} (h : s.devicePart.Inv) (a : Word) (v : Byte) :
    (s.busWrite a v).devicePart.Inv := by
  obtain ⟨hlcd, hdma, hoverlay⟩ := s.busWrite_lcd_dma_overlay a v
  refine ⟨State.busWrite_wf a v h.memory, fun hon => ?_, ?_, ?_⟩
  · show (s.busWrite a v).bootRom.isSome = true
    rw [State.busWrite_bootRom]
    exact h.overlay (hoverlay hon)
  · show (s.busWrite a v).dma.Inv
    rw [hdma]
    exact State.lcdRegWrite_dmaInv h.dma _ v
  · show (s.busWrite a v).lcd.displayPart.Inv ((s.busWrite a v).cycle + 1)
    rw [hlcd, State.busWrite_cycle]
    exact State.lcdRegWrite_displayInv h.display v _

/-- What every bus write keeps outside the CPU, instructions and services keep. -/
theorem Reaches.preserves {P : DevicePart → Prop} {s t : State} (h : Reaches s t)
    (hp : ∀ (u : State) (a : Word) (v : Byte), P u.devicePart → P (u.busWrite a v).devicePart) (hs : P s.devicePart) :
    P t.devicePart := by
  obtain ⟨ws, -, ht⟩ := h
  rw [ht]
  clear ht
  induction ws generalizing s with
  | nil => exact hs
  | cons w ws ih => exact ih (hp s w.1 w.2 hs)

theorem dmaStep_dmaInv {s : State} (h : s.dma.Inv) : (dmaStep s).dma.Inv := by
  obtain ⟨⟨hindex, hactive⟩, hsource⟩ := h
  cases ha : s.dma.active with
  | false =>
    rw [dmaStep_inactive ha]
    exact ⟨⟨hindex, hactive⟩, hsource⟩
  | true =>
    have hlt := hactive ha
    rw [dmaStep, if_pos ha]
    exact ⟨⟨hlt, fun hnot => Nat.lt_of_le_of_ne hlt (bne_iff_ne.mp hnot)⟩, hsource⟩

theorem deviceStep_dma (s : State) : (deviceStep s).dma = (dmaStep (timerStep s)).dma := by
  obtain ⟨-, e⟩ | ⟨-, e⟩ := lcdStep_cases (timerStep s) <;> rw [deviceStep, e]
  obtain ⟨l, f, e, -⟩ := (dmaStep (timerStep s)).ppuStep_changes
  rw [e]

theorem deviceStep_bootRomEnabled (s : State) : (deviceStep s).bootRomEnabled = s.bootRomEnabled := by
  obtain ⟨x, l, d, f, m, e, -⟩ := deviceStep_changes s
  rw [e]

theorem deviceStep_devicePartInv {s : State} (h : s.Inv) : (deviceStep s).devicePart.Inv := by
  obtain ⟨hcore, hdisplay, -⟩ := h
  have htimer : (timerStep s).dma = s.dma := by
    obtain ⟨x, f, e⟩ := timerStep_changes s
    rw [e]
  refine ⟨deviceStep_wf hcore.memory, ?_, ?_, ?_⟩
  · show (deviceStep s).bootRomEnabled = true → (deviceStep s).bootRom.isSome = true
    rw [deviceStep_bootRomEnabled, deviceStep_bootRom]
    exact hcore.overlay
  · show (deviceStep s).dma.Inv
    rw [deviceStep_dma]
    exact dmaStep_dmaInv (htimer ▸ ⟨hcore.dmaIndex, hcore.dmaSource⟩)
  · show (deviceStep s).lcd.displayPart.Inv ((deviceStep s).cycle + 1)
    rw [deviceStep_cycle]
    exact deviceStep_displayInv (s.displayInv_iff.mp hdisplay)

theorem noFault_of_step {s t : State} (h : step s = .next t) : s.NoFault := by
  cases hfault : s.fault with
  | some f =>
    rw [step_faulted hfault] at h
    cases h
  | none => exact hfault

/-- A step keeps the devices' part, whatever the CPU did in it. -/
theorem step_devices {s t : State} (h : s.Inv) (hstep : step s = .next t) :
    t.mem.wf = true ∧ (t.bootRomEnabled = true → t.bootRom.isSome = true) ∧ t.dma.Inv ∧ t.DisplayInv := by
  obtain ⟨u, w, f, e, hr, hu⟩ := step_reaches (noFault_of_step hstep)
  obtain rfl : w.nextCycle = t := Host.Outcome.next.inj (e.symm.trans hstep)
  have hd := deviceStep_devicePartInv h
  have hinv : w.devicePart.Inv := by
    refine hr.preserves (fun v a b hv => State.busWrite_devicePartInv hv a b) ?_
    rw [hu]
    exact ⟨hd.memory, hd.overlay, hd.dma, hd.display⟩
  exact ⟨hinv.memory, hinv.overlay, hinv.dma, w.nextCycle.displayInv_iff.mpr hinv.display⟩

/-! ### The CPU's part of the invariant -/

/-- The CPU's part of the invariant, before the cycle is counted. -/
structure State.CpuInv (s : State) : Prop where
  flags : s.regs.f &&& 0x0F = 0
  pending : s.eiDelay = false → s.imePending = false
  active : s.nextActive ≤ s.cycle + 6

theorem R8.cost_le (o : R8) {register memory n : Nat} (h : register ≤ n) (h' : memory ≤ n) :
    o.cost register memory ≤ n := by
  cases o with
  | atHl => exact h'
  | b | c | d | e | h | l | a => exact h

/-- No operation costs more than six cycles (R232). -/
theorem SharedOp.cycles_le {op : SharedOp} {s : State} {n : Nat} (h : n ∈ op.cycles s) : n ≤ 6 := by
  cases op with
  | loadR8 | loadN8 | aluR8 | incrementR8 | decrementR8 | rotateR8 | resetR8 | setR8 | testR8 =>
    obtain rfl := Option.mem_some_iff.mp h
    simp [R8.cost_le]
  | secondTable op2 =>
    unfold SharedOp.cycles at h
    dsimp only at h
    split at h <;> obtain rfl := Option.mem_some_iff.mp h <;> exact R8.cost_le _ (by decide) (by decide)
  | jumpAbsoluteIf | jumpRelativeIf | callIf | returnIf =>
    obtain rfl := Option.mem_some_iff.mp h
    split <;> decide
  | stopCpu | illegalByte => cases h
  | _ =>
    obtain rfl := Option.mem_some_iff.mp h
    decide

/-- An operation that charges no cycles leaves the cycle at which the CPU next acts. -/
theorem SharedOp.run_nextActive_of_none {op : SharedOp} {s : State} (h : op.cycles s = none) :
    (op.run s).nextActive = s.nextActive := by
  cases op with
  | stopCpu | illegalByte => rfl
  | secondTable op2 =>
    unfold SharedOp.cycles at h
    dsimp only at h
    split at h <;> cases h
  | _ => cases h

theorem ControlPart.promote_imePending {c : ControlPart} (h : c.eiDelay = false → c.imePending = false)
    (hdelay : c.promote.eiDelay = false) : c.promote.imePending = false := by
  rw [ControlPart.promote, h hdelay]
  rfl

/-- Without `EI_DELAY` no operation leaves an enable pending (R34). -/
theorem SharedOp.control_imePending {c : ControlPart} (h : c.eiDelay = false → c.imePending = false) (op : SharedOp)
    (pc : Word) : (op.control pc c).eiDelay = false → (op.control pc c).imePending = false := by
  cases op with
  | enableInterrupts =>
    unfold SharedOp.control
    dsimp only
    split
    next hdelay => exact fun hnot => absurd hdelay (Bool.eq_false_iff.mp hnot)
    next => exact h
  | disableInterrupts | returnInterrupt => exact ControlPart.promote_imePending fun _ => rfl
  | stopCpu | illegalByte => exact h
  | _ => exact ControlPart.promote_imePending h

theorem SharedOp.run_cpuInv {s : State} (h : s.CpuInv) (op : SharedOp) : (op.run s).CpuInv := by
  obtain ⟨hflags, hpending, hactive⟩ := h
  have hcontrol := op.run_control s
  have hcycle : (op.run s).cycle = s.cycle := (op.run_reaches s).keeps DevicePart.cycle State.busWrite_cycle
  refine ⟨(op.run_regWrites s).low_flags hflags, ?_, ?_⟩
  · have kept := op.control_imePending (c := s.control) hpending s.pc
    rwa [← hcontrol] at kept
  · rw [hcycle]
    cases hcost : op.cycles s with
    | none =>
      rw [SharedOp.run_nextActive_of_none hcost]
      exact hactive
    | some n =>
      rw [(op.run_endsAs s).nextActive n hcost]
      exact Nat.add_le_add_left (SharedOp.cycles_le hcost) _

/-- Waking up sets no more than the cycle at which the CPU next acts, and that to the present one. -/
theorem State.wake_cpuInv {s : State} (h : s.CpuInv) : s.wake.CpuInv := by
  obtain ⟨hflags, hpending, hactive⟩ := h
  unfold State.wake
  split
  · exact ⟨hflags, hpending, hactive⟩
  · exact ⟨hflags, hpending, Nat.le_add_right _ _⟩

theorem State.serviceInterrupt_regs (s : State) : s.serviceInterrupt.regs = s.regs := by
  simp [State.serviceInterrupt]

theorem State.serviceInterrupt_cpuInv {s : State} (h : s.CpuInv) : s.serviceInterrupt.CpuInv := by
  refine ⟨s.serviceInterrupt_regs ▸ h.flags, fun _ => ?_, ?_⟩ <;>
    simp [State.serviceInterrupt, State.pushWord, Config.intServiceCycles]

theorem deviceStep_cpuInv {s : State} (h : s.Inv) : (deviceStep s).CpuInv := by
  obtain ⟨hcore, -, hactive⟩ := h
  refine ⟨?_, ?_, ?_⟩
  · rw [deviceStep_regs]
    exact hcore.flags
  · rw [deviceStep_eiDelay, deviceStep_imePending]
    exact hcore.pending
  · rw [deviceStep_nextActive, deviceStep_cycle]
    exact Nat.le_succ_of_le hactive

/-- A step keeps the CPU's part: it is what the CPU leaves when it is idle, services an interrupt or runs an instruction,
and then the cycle is counted. -/
theorem step_cpu {s t : State} (h : s.Inv) (hstep : step s = .next t) : ∃ u : State, t = u.nextCycle ∧ u.CpuInv := by
  have hd := deviceStep_cpuInv h
  obtain ⟨-, e⟩ | ⟨-, -, e⟩ | ⟨-, -, e⟩ := step_cases (noFault_of_step hstep) <;>
    obtain rfl := Host.Outcome.next.inj (hstep.symm.trans e)
  · exact ⟨_, rfl, hd⟩
  · exact ⟨_, rfl, State.serviceInterrupt_cpuInv (State.wake_cpuInv hd)⟩
  · exact ⟨_, rfl, SharedOp.run_cpuInv (State.wake_cpuInv hd) _⟩

/-- Settles O60: the devices' part is kept by the devices' steps and by every bus write of the CPU, and the CPU's part by
each of the three things it can do in a cycle. -/
theorem everyStepKeepsTheInvariant : Obligations.EveryStepKeepsTheInvariant := by
  unfold Obligations.EveryStepKeepsTheInvariant
  intro s t h hstep
  obtain ⟨hmem, hoverlay, hdma, hdisplay⟩ := step_devices h hstep
  obtain ⟨u, rfl, hflags, hpending, hactive⟩ := step_cpu h hstep
  exact ⟨⟨hmem, hflags, hpending, hoverlay, hdma.index, hdma.source⟩, hdisplay, by
    show u.nextActive ≤ u.cycle + 1 + 5
    omega⟩

end Sys2Proof.Machine
end

section
/-! PROOFS. The CPU's control state over every instruction word (spec 10_state.md R32 to R35, R55): which shared
operations touch each part of it, and that they are those of the bytes the statements name. -/

namespace Sys2Proof.Machine

open Sys2Proof.Rules

/-! ### Which operations touch the control state -/

/-- Whether an operation sets or clears IME itself (R32, R213, R216, R217). -/
def SharedOp.setsIme (op : SharedOp) : Bool :=
  match op with
  | .enableInterrupts | .disableInterrupts | .returnInterrupt => true
  | _ => false

/-- Whether an operation halts the CPU (R33, R218). -/
def SharedOp.halts (op : SharedOp) : Bool :=
  match op with
  | .haltCpu => true
  | _ => false

/-- Whether an operation records a fault (R35, R219, R220). -/
def SharedOp.faults (op : SharedOp) : Bool :=
  match op with
  | .stopCpu | .illegalByte _ => true
  | _ => false

section
variable (op : SharedOp) (pc : Word) (c : ControlPart)

/-- No operation counts a cycle or changes a parameter (R55). -/
theorem SharedOp.control_parameters :
    (op.control pc c).cycle = c.cycle ∧ (op.control pc c).eiDelay = c.eiDelay ∧
      (op.control pc c).bootRom = c.bootRom := by
  cases op with
  | enableInterrupts =>
    unfold SharedOp.control
    dsimp only
    split <;> exact ⟨rfl, rfl, rfl⟩
  | _ => exact ⟨rfl, rfl, rfl⟩

variable {op}

theorem SharedOp.control_run (h : op.halts = false) : (op.control pc c).run = c.run := by
  cases op with
  | haltCpu => cases h
  | enableInterrupts =>
    unfold SharedOp.control
    dsimp only
    split <;> rfl
  | _ => rfl

theorem SharedOp.control_fault (h : op.faults = false) : (op.control pc c).fault = c.fault := by
  cases op with
  | stopCpu | illegalByte => cases h
  | enableInterrupts =>
    unfold SharedOp.control
    dsimp only
    split <;> rfl
  | _ => rfl

/-- DI leaves IME 0, whatever was pending (R216). -/
theorem SharedOp.control_disableInterrupts_ime : (SharedOp.disableInterrupts.control pc c).ime = false := by
  simp [SharedOp.control, ControlPart.promote]

variable {c}

/-- With no enable to take over, the end of an instruction leaves IME and the pending enable (R217, R230). -/
theorem ControlPart.promote_of_noEnable (h : (c.eiDelay && c.imePending) = false) :
    c.promote.ime = c.ime ∧ c.promote.imePending = c.imePending := by
  unfold ControlPart.promote
  dsimp only
  rw [h, Bool.or_false]
  refine ⟨rfl, ?_⟩
  cases hdelay : c.eiDelay with
  | false => exact Bool.and_true _
  | true =>
    rw [hdelay, Bool.true_and] at h
    rw [h, Bool.false_and]

theorem SharedOp.control_of_noEnable (hop : op.setsIme = false) (h : (c.eiDelay && c.imePending) = false) :
    (op.control pc c).ime = c.ime ∧ (op.control pc c).imePending = c.imePending := by
  cases op with
  | enableInterrupts | disableInterrupts | returnInterrupt => cases hop
  | stopCpu | illegalByte => exact ⟨rfl, rfl⟩
  | _ => exact ControlPart.promote_of_noEnable h

end

/-! ### The bytes of those operations -/

theorem sharedOp_tableTwoInstr_control (b1 : Byte) :
    (sharedOp (tableTwoInstr b1)).setsIme = false ∧ (sharedOp (tableTwoInstr b1)).halts = false ∧
      (sharedOp (tableTwoInstr b1)).faults = false := by
  revert b1
  refine forall_byte_of_forall_lt fun n hn => ?_
  interval_cases n <;> exact ⟨rfl, rfl, rfl⟩

theorem sharedOp_decode3_control (b0 b1 b2 : Byte) :
    (sharedOp (decode3 b0 b1 b2)).setsIme = [0xF3, 0xFB, 0xD9].contains b0 ∧
      (sharedOp (decode3 b0 b1 b2)).halts = (b0 == 0x76) ∧
      (sharedOp (decode3 b0 b1 b2)).faults = recordsFault b0 := by
  revert b0
  refine forall_byte_of_cells (fun k hk => ?_) (sharedOp_tableTwoInstr_control b1) fun k hk hk' => ?_ <;>
    interval_cases k <;> exact ⟨rfl, rfl, rfl⟩

/-- Settles O34: outside the operations of the bytes named, an operation changes IME and the pending enable only by
taking the enable over, and leaves the other parts of the control state. -/
theorem controlStateFrame : Obligations.ControlStateFrame := by
  unfold Obligations.ControlStateFrame
  intro b0 b1 b2 s t h
  have hcontrol := exec_control h
  obtain ⟨hime, hhalts, hfaults⟩ := sharedOp_decode3_control b0 b1 b2
  have hframe : b0 ∉ [0xF3, 0xFB, 0xD9] → (s.eiDelay && s.imePending) = false →
      t.ime = s.ime ∧ t.imePending = s.imePending := fun hb henable => by
    have hkept := SharedOp.control_of_noEnable s.pc (c := s.control) (hime.trans (by simpa using hb)) henable
    rwa [← hcontrol] at hkept
  refine ⟨hframe, fun hoff hon => ?_, fun hb => ?_, fun hstop hlegal => ?_, ?_⟩
  · by_contra hnot
    obtain ⟨hei, hreti, henable⟩ : b0 ≠ 0xFB ∧ b0 ≠ 0xD9 ∧ ¬(s.eiDelay && s.imePending) = true := by tauto
    by_cases hdi : b0 = 0xF3
    · subst hdi
      have hcleared : t.ime = false :=
        (congrArg ControlPart.ime hcontrol).trans (SharedOp.control_disableInterrupts_ime s.pc s.control)
      cases hon.symm.trans hcleared
    · have hb : b0 ∉ [0xF3, 0xFB, 0xD9] := by
        simp only [List.mem_cons, List.not_mem_nil, or_false, not_or]
        exact ⟨hdi, hei, hreti⟩
      obtain ⟨hkept, -⟩ := hframe hb (Bool.eq_false_iff.mpr henable)
      cases hon.symm.trans (hkept.trans hoff)
  · have hkept := SharedOp.control_run s.pc s.control (hhalts.trans (beq_eq_false_iff_ne.mpr hb))
    rwa [← hcontrol] at hkept
  · have hkept := SharedOp.control_fault s.pc s.control (hfaults.trans (recordsFault_eq_false hstop hlegal))
    rwa [← hcontrol] at hkept
  · have hkept := SharedOp.control_parameters (sharedOp (decode3 b0 b1 b2)) s.pc s.control
    rwa [← hcontrol] at hkept

end Sys2Proof.Machine
end

section
/-! PROOFS. The I/O registers on the bus, the addresses no component owns and the boot ROM's overlay (spec
20_memory.md R60 to R70, 10_state.md R30 to R52, 60_exceptions.md R226, R248, R255, R268). -/

namespace Sys2Proof.Machine

open Sys2Proof.Rules

/-! ### Addresses no component owns (R70) -/

theorem isUnmapped_iff (n : Nat) :
    isUnmapped n = true ↔ (0xFEA0 ≤ n ∧ n < 0xFF80) ∧ n ≠ 0xFF00 ∧ ¬(0xFF04 ≤ n ∧ n ≤ 0xFF07) ∧ n ≠ 0xFF0F ∧
      ¬(0xFF40 ≤ n ∧ n ≤ 0xFF4B) := by
  simp only [isUnmapped, Bool.or_eq_true, Bool.and_eq_true, decide_eq_true_eq, beq_iff_eq]
  omega

section
variable {a : Word} (h : isUnmapped a.toNat = true)
include h

theorem Component.read_unmapped (s : State) (c : Component) : Component.read s a c = none := by
  rw [isUnmapped_iff] at h
  cases hread : Component.read s a c with
  | none => rfl
  | some v =>
    have howner : responder s a.toNat = .cpu := by
      unfold responder
      rw [if_neg (by omega), if_neg (by omega), if_neg (by omega), if_neg (by omega), if_neg (by omega)]
    obtain rfl : c = .cpu := (Component.eq_responder hread).trans howner
    rw [Component.read, inHighRam_below (by omega), if_neg (by decide), if_neg (by omega), if_neg (by omega)] at hread
    exact hread.symm

theorem State.busRead_unmapped (s : State) : s.busRead a = 0xFF :=
  busReadFrom_of_silent fun c _ => Component.read_unmapped h s c

theorem State.busWrite_unmapped (s : State) (v : Byte) (hboot : a ≠ 0xFF50) : s.busWrite a v = s := by
  rw [isUnmapped_iff] at h
  have hne : a.toNat ≠ 0xFF50 := fun e => hboot (BitVec.eq_of_toNat_eq e)
  rw [State.busWrite_register v s (by omega) (inHighRam_below (by omega)), if_neg hne, if_neg (by omega),
    if_neg (by omega), if_neg (by omega)]
  split
  · exact s.timerWrite_other v (by omega)
  · exact s.lcdRegWrite_other v (by omega)

end

theorem State.busWrite_bootOff (v : Byte) (s : State) : s.busWrite 0xFF50 v = { s with bootRomEnabled := false } :=
  State.busWrite_register v s (by decide) (by decide)

theorem State.busWrite_ly (v : Byte) (s : State) : s.busWrite 0xFF44 v = s :=
  State.busWrite_lcdRegister v s (by decide) (by decide)

/-! ### The boot ROM's overlay (R64, R65) -/

theorem toNat_ofNat_page (n : Fin 256) : (BitVec.ofNat 16 n.val).toNat = n.val := by
  rw [BitVec.toNat_ofNat]
  omega

theorem inCartridge_page (n : Fin 256) : inCartridge (BitVec.ofNat 16 n.val).toNat = true := by
  rw [toNat_ofNat_page, inCartridge_iff]
  omega

theorem State.busRead_overlay {s : State} {rom : Vector Byte 256} (hrom : s.bootRom = some rom)
    (hon : s.bootRomEnabled = true) (n : Fin 256) : s.busRead (BitVec.ofNat 16 n.val) = rom.get n := by
  refine busReadFrom_of_answers (c := .bootRom) (by decide) ?_
  have hpage : decide (n.val < 0x100) = true := decide_eq_true n.isLt
  simp only [Component.read, State.overlayOn, State.bootByte, toNat_ofNat_page, hrom, hon, hpage, Option.isSome_some,
    Bool.and_self, if_true, Option.bind_some, Vector.getElem?_eq_getElem n.isLt]
  rfl

theorem State.busRead_cartridge {s : State} (hoff : s.bootRomEnabled = false) {a : Word}
    (ha : inCartridge a.toNat = true) : s.busRead a = s.cartridgeByte a := by
  refine busReadFrom_of_answers (c := .cartridge) (by decide) ?_
  simp [Component.read, State.overlayOn, hoff, ha]

/-- Settles O40: no component answers or takes a write at an unmapped address, 0xFF50 and LY have one effect and none, and
in the first page the boot ROM answers until it is disabled, where a write reaches the cartridge alone. -/
theorem unmappedAddressesAndBootOverlay : Obligations.UnmappedAddressesAndBootOverlay := by
  unfold Obligations.UnmappedAddressesAndBootOverlay
  refine ⟨fun s a v => ⟨fun h => ⟨State.busRead_unmapped h s, State.busWrite_unmapped h s v⟩, s.busWrite_bootOff v,
    s.busWrite_ly v⟩, fun s rom n v hrom hon => ⟨State.busRead_overlay hrom hon n, ?_⟩, fun s n v w =>
    ⟨State.busWrite_cartridge w s (inCartridge_page n), State.busWrite_cartridge w _ (inCartridge_page n)⟩⟩
  rw [State.busWrite_bootOff]
  exact State.busRead_cartridge rfl (inCartridge_page n)

/-! ### Reading a register (R30, R31, R248, R255) -/

/-- A component that answers decides the read, wherever it stands on the bus. -/
theorem State.busRead_of_answers {s : State} {a : Word} {v : Byte} (c : Component) (h : Component.read s a c = some v) :
    s.busRead a = v := busReadFrom_of_answers (by cases c <;> decide) h

theorem State.busRead_timerRegister {s : State} {a : Word} {v : Byte} (h : s.timer.regRead a.toNat = some v) :
    s.busRead a = v := State.busRead_of_answers .timer h

theorem State.busRead_lcdRegister {s : State} {a : Word} {v : Byte} (h : s.lcd.regRead a.toNat = some v) :
    s.busRead a = v := by
  refine State.busRead_of_answers .lcd ?_
  have hbounds := Lcd.regRead_bounds h
  have hmem : inLcdMemory a.toNat = false := by
    rw [Bool.eq_false_iff, Ne, inLcdMemory_iff]
    omega
  simp [Component.read, hmem, h]

theorem State.busRead_ie (s : State) : s.busRead 0xFFFF = s.ie := State.busRead_of_answers .cpu rfl

theorem State.busRead_iflag (s : State) : s.busRead 0xFF0F = s.iflag := State.busRead_of_answers .cpu rfl

/-! ### Writing a register (R45, R248, R255) -/

section
variable (v : Byte) (s : State)

theorem State.busWrite_ie : s.busWrite 0xFFFF v = { s with ie := v } :=
  State.busWrite_register v s (by decide) (by decide)

theorem State.busWrite_iflag : s.busWrite 0xFF0F v = { s with iflag := v } :=
  State.busWrite_register v s (by decide) (by decide)

theorem State.busWrite_joypad : s.busWrite 0xFF00 v = { s with joypad := s.joypad ++ [.write v] } :=
  State.busWrite_register v s (by decide) (by decide)

theorem State.busWrite_tima : s.busWrite 0xFF05 v = { s with timer := { s.timer with tima := v } } :=
  State.busWrite_timerRegister v s (by decide) (by decide)

theorem State.busWrite_tma : s.busWrite 0xFF06 v = { s with timer := { s.timer with tma := v } } :=
  State.busWrite_timerRegister v s (by decide) (by decide)

theorem State.busWrite_stat : s.busWrite 0xFF41 v = s.writeStat v :=
  State.busWrite_lcdRegister v s (by decide) (by decide)

/-- TAC reads back what was written, also where the write makes the timer count (R247, R248). -/
theorem State.busRead_busWrite_tac : (s.busWrite 0xFF07 v).busRead 0xFF07 = v := by
  obtain ⟨tima, f, e⟩ := s.timerEdge_changes s.timer.div16 v
  rw [State.busWrite_tac, e]
  exact State.busRead_timerRegister rfl

/-- Any write to DIV clears the divider (R246). -/
theorem State.busRead_busWrite_div : (s.busWrite 0xFF04 v).busRead 0xFF04 = 0 := by
  obtain ⟨tima, f, e⟩ := s.timerEdge_changes 0 s.timer.tac
  rw [State.busWrite_div, e]
  exact (State.busRead_timerRegister rfl).trans (show hi8 0 = 0 by decide)

theorem State.busRead_busWrite_lcdc : (s.busWrite 0xFF40 v).busRead 0xFF40 = v := by
  obtain ⟨stat, ly, power, origin, f, e⟩ := s.writeLcdc_changes v
  rw [State.busWrite_lcdc, e]
  exact State.busRead_lcdRegister rfl

/-- The registers of the LCD controller that read back what was written, beside LCDC (R255). -/
theorem State.busRead_busWrite_lcdRegister {a : Word}
    (h : a ∈ [0xFF42, 0xFF43, 0xFF45, 0xFF46, 0xFF47, 0xFF48, 0xFF49, 0xFF4A, 0xFF4B]) :
    (s.busWrite a v).busRead a = v := by
  simp only [List.mem_cons, List.not_mem_nil, or_false] at h
  obtain rfl | rfl | rfl | rfl | rfl | rfl | rfl | rfl | rfl := h <;>
    rw [State.busWrite_lcdRegister v s (by decide) (by decide)] <;> refine State.busRead_lcdRegister ?_
  case inr.inr.inl =>
    show (s.writeLyc v).lcd.regRead 0xFF45 = some v
    rw [State.writeLyc, State.lycCompare_eq]
    rfl
  all_goals rfl

end

/-- A key pressed reaches the joypad, which may raise line 4 (R226). -/
theorem State.keyPressed_eq (k : Config.Key) (s : State) :
    s.keyPressed k =
      { s with
        joypad := s.joypad ++ [.press k]
        iflag := if Config.joypadRaises (s.joypad ++ [.press k]) then s.iflag ||| 0x10 else s.iflag } := by
  unfold State.keyPressed
  dsimp only
  split <;> rfl

/-- Settles O41: each register answers its field, and each write is the write of that field with the register's own side
effect. -/
theorem registersReadBack : Obligations.RegistersReadBack := by
  unfold Obligations.RegistersReadBack
  have timer {s : State} {a : Word} {v : Byte} (h : s.timer.regRead a.toNat = some v) := State.busRead_timerRegister h
  have lcd {s : State} {a : Word} {v : Byte} (h : s.lcd.regRead a.toNat = some v) := State.busRead_lcdRegister h
  refine ⟨fun s => ?_, fun s v => ?_, fun s v => ?_, fun s v k => ?_⟩
  · exact ⟨s.busRead_ie, s.busRead_iflag, timer rfl, timer rfl, timer rfl, timer rfl, lcd rfl, lcd rfl, lcd rfl, lcd rfl,
      lcd rfl, lcd rfl, lcd rfl, lcd rfl, lcd rfl, lcd rfl, lcd rfl, lcd rfl⟩
  · refine ⟨s.busRead_busWrite_div v, ?_, ?_, s.busRead_busWrite_tac v, ?_, ?_, s.busRead_busWrite_lcdc v, ?_, ?_,
      fun a => s.busRead_busWrite_lcdRegister v⟩
    · rw [State.busWrite_tima]
      exact timer rfl
    · rw [State.busWrite_tma]
      exact timer rfl
    · rw [State.busWrite_iflag, State.busRead_iflag]
    · rw [State.busWrite_ie, State.busRead_ie]
    · rw [State.busWrite_stat]
      exact lcd rfl
    · rw [State.busWrite_ly]
      exact lcd rfl
  · have write {a : Word} (h : 0xFF40 ≤ a.toNat) (h' : a.toNat ≤ 0xFF4B) := State.busWrite_lcdRegister v s h h'
    exact ⟨s.busWrite_ie v, s.busWrite_iflag v, s.busWrite_tima v, s.busWrite_tma v, s.busWrite_stat v,
      write (by decide) (by decide), write (by decide) (by decide), s.busWrite_ly v, write (by decide) (by decide),
      s.busWrite_dma v, write (by decide) (by decide), write (by decide) (by decide), write (by decide) (by decide),
      write (by decide) (by decide), write (by decide) (by decide)⟩
  · exact ⟨State.busRead_of_answers .joypad rfl, s.busWrite_joypad v, rfl, s.keyPressed_eq k⟩

end Sys2Proof.Machine
end

section
/-! PROOFS. Requests in IF (spec 10_state.md R31, 60_exceptions.md R224, R229): the devices and every bus write but one
to IF itself only add requests, so that one is lost only where the CPU takes it or stores to IF. -/

namespace Sys2Proof.Machine

open Sys2Proof.Rules

/-! ### Requests are only added (R224) -/

/-- Every request of `s` is one of `t`. -/
def KeepsRequests (s t : State) : Prop := ∀ i, s.iflag.getLsbD i = true → t.iflag.getLsbD i = true

theorem KeepsRequests.of_eq {s t : State} (h : t.iflag = s.iflag) : KeepsRequests s t := fun _ hi => h ▸ hi

theorem KeepsRequests.trans {s t u : State} (h : KeepsRequests s t) (h' : KeepsRequests t u) : KeepsRequests s u :=
  fun i hi => h' i (h i hi)

theorem KeepsRequests.raise (n : Nat) (s : State) : KeepsRequests s (s.raise n) := fun i hi => by
  rw [State.raise, BitVec.getLsbD_or, hi, Bool.true_or]

/-! ### The timer and the LCD controller -/

theorem KeepsRequests.incrementTima (s : State) : KeepsRequests s s.incrementTima := by
  unfold State.incrementTima
  split
  · exact .raise 2 { s with timer := { s.timer with tima := s.timer.tma } }
  · exact .of_eq rfl

theorem KeepsRequests.timerEdge (d : Word) (tac : Byte) (s : State) : KeepsRequests s (s.timerEdge d tac) := by
  rw [State.timerEdge_eq]
  split
  · exact .incrementTima { s with timer := { s.timer with div16 := d, tac := tac } }
  · exact .of_eq rfl

theorem KeepsRequests.timerWrite (n : Nat) (v : Byte) (s : State) : KeepsRequests s (s.timerWrite n v) := by
  unfold State.timerWrite
  split
  case h_1 | h_4 => exact .timerEdge _ _ s
  all_goals exact .of_eq rfl

theorem KeepsRequests.enterMode (m : BitVec 2) (s : State) : KeepsRequests s (s.enterMode m) := by
  unfold State.enterMode
  split
  · exact .raise 1 (s.setMode m)
  · exact .of_eq rfl

theorem KeepsRequests.lycCompare (s : State) : KeepsRequests s s.lycCompare := by
  unfold State.lycCompare
  dsimp only
  split
  · exact .raise 1 { s with lcd := { s.lcd with stat := withBit s.lcd.stat 2 (decide (s.lcd.ly = s.lcd.lyc)) } }
  · exact .of_eq rfl

theorem KeepsRequests.lcdRegWrite (n : Nat) (v : Byte) (s : State) : KeepsRequests s (s.lcdRegWrite n v) := by
  unfold State.lcdRegWrite
  split
  case h_1 =>
    unfold State.writeLcdc
    dsimp only
    split_ifs
    · exact .lycCompare (State.setMode 0 { s with lcd := { s.lcd with lcdc := v, power := .off, ly := 0 } })
    · exact .of_eq rfl
    · exact .of_eq rfl
  case h_5 => exact .lycCompare { s with lcd := { s.lcd with lyc := v } }
  all_goals exact .of_eq rfl

theorem KeepsRequests.startLine (ln : Nat) (s : State) : KeepsRequests s (s.startLine ln) := by
  have hcompare : KeepsRequests s (s.setLy ln).lycCompare := .lycCompare (s.setLy ln)
  obtain rfl | ⟨h, h'⟩ | rfl | h : ln = 0 ∨ (0 < ln ∧ ln < 144) ∨ ln = 144 ∨ 144 < ln := by omega
  · rw [s.startLine_first]
    exact hcompare.trans (.enterMode 2 (s.setLy 0).lycCompare.clearWinLine)
  · rw [s.startLine_visible h h']
    exact hcompare.trans (.enterMode 2 _)
  · rw [s.startLine_vblank]
    have hfinish : KeepsRequests (s.setLy 144).lycCompare (s.setLy 144).lycCompare.finishFrame := .raise 0 _
    exact hcompare.trans (hfinish.trans (.enterMode 1 _))
  · rw [s.startLine_below h]
    exact hcompare

theorem KeepsRequests.ppuStep (s : State) : KeepsRequests s s.ppuStep := by
  rw [State.ppuStep_eq]
  split_ifs
  · exact .startLine _ s
  · exact .enterMode 3 (s.renderLine s.frameLine)
  · exact .enterMode 0 s
  · exact .of_eq rfl

/-- The timer and the LCD controller only add requests. -/
theorem KeepsRequests.deviceStep (s : State) : KeepsRequests s (deviceStep s) := by
  have htimer : KeepsRequests s (timerStep s) := .timerEdge _ _ s
  have hdma : KeepsRequests (timerStep s) (dmaStep (timerStep s)) := by
    obtain ⟨d, m, e⟩ := dmaStep_changes (timerStep s)
    rw [e]
    exact .of_eq rfl
  obtain ⟨-, e⟩ | ⟨-, e⟩ := lcdStep_cases (timerStep s) <;> rw [Machine.deviceStep, e]
  · exact htimer.trans hdma
  · exact htimer.trans (hdma.trans (.ppuStep _))

/-! ### Bus writes -/

/-- A bus write to another address than that of IF only adds requests (R31). -/
theorem KeepsRequests.busWrite {a : Word} (h : a ≠ 0xFF0F) (v : Byte) (s : State) : KeepsRequests s (s.busWrite a v) := by
  obtain ⟨-, ⟨m, c, j, e, b, -, hw⟩ | ⟨ha, -⟩ | hw⟩ | hw := s.busWrite_cases a v
  · rw [hw]
    exact .of_eq rfl
  · exact absurd ha h
  · rw [hw]
    exact .timerWrite _ v s
  · rw [hw]
    exact .lcdRegWrite _ v s

theorem KeepsRequests.busWrites {ws : List (Word × Byte)} (h : ∀ w ∈ ws, w.1 ≠ 0xFF0F) (s : State) :
    KeepsRequests s (busWrites ws s) := by
  induction ws generalizing s with
  | nil => exact .of_eq rfl
  | cons w ws ih =>
    obtain ⟨hw, hws⟩ := List.forall_mem_cons.mp h
    exact (KeepsRequests.busWrite hw w.2 s).trans (ih hws _)

theorem KeepsRequests.storesAt {as : List Word} {s t : State} (hstores : StoresAt as s t) (h : 0xFF0F ∉ as) :
    KeepsRequests s t := by
  obtain ⟨values, -, hpart⟩ := hstores
  refine (KeepsRequests.busWrites (fun w hw => ?_) s).trans (.of_eq (congrArg DevicePart.iflag hpart))
  exact ne_of_mem_of_not_mem (List.of_mem_zip hw).1 h

/-! ### What the CPU can lose -/

@[simp] theorem State.wake_sp (s : State) : s.wake.sp = s.sp := by
  unfold State.wake
  split <;> rfl

/-- The service of a line takes that line's request, and its push may store to IF; every other request stays (R229). -/
theorem State.serviceInterrupt_request {s : State} {i : Nat} (hi : i < 8) (hset : s.iflag.getLsbD i = true)
    (hline : i ≠ lowestLine s.pending) (hhigh : s.sp - 1 ≠ 0xFF0F) (hlow : s.sp - 2 ≠ 0xFF0F) :
    s.serviceInterrupt.iflag.getLsbD i = true := by
  rw [State.serviceInterrupt_eq]
  refine ((KeepsRequests.busWrite hhigh _ _).trans (.busWrite hlow _ _)) i ?_
  have htaken : (1#8 <<< lowestLine s.pending).getLsbD i = false := by
    rw [← BitVec.twoPow_eq, BitVec.getLsbD_twoPow, decide_eq_false hline.symm, Bool.and_false]
  rw [BitVec.getLsbD_and, BitVec.getLsbD_not, htaken, decide_eq_true hi, hset]
  rfl

/-- Settles O43: the devices only add requests, so one that a cycle loses was lost by the CPU, which was not idle and took
the line or stored to IF. -/
theorem pendingBitsAreNotLost : Obligations.PendingBitsAreNotLost := by
  unfold Obligations.PendingBitsAreNotLost
  intro s t i hi hstep hset hclear d
  have hd : d.iflag.getLsbD i = true := KeepsRequests.deviceStep s i hset
  have lost : ∀ {u : State}, step s = .next u.nextCycle → u.iflag.getLsbD i ≠ true := fun {u} e hu => by
    obtain rfl := Host.Outcome.next.inj (hstep.symm.trans e)
    exact Bool.false_ne_true (hclear.symm.trans hu)
  obtain ⟨-, e⟩ | ⟨hidle, hserve, e⟩ | ⟨hidle, hserve, e⟩ := step_cases (noFault_of_step hstep)
  · exact absurd hd (lost e)
  · refine ⟨hidle, ?_⟩
    rw [if_pos hserve]
    by_contra hnot
    obtain ⟨hline, hhigh, hlow⟩ := not_or.mp hnot |>.imp_right not_or.mp
    rw [← d.wake_sp] at hhigh hlow
    rw [← d.wake_pending] at hline
    rw [← d.wake_iflag] at hd
    exact lost e (State.serviceInterrupt_request hi hd hline hhigh hlow)
  · refine ⟨hidle, ?_⟩
    rw [if_neg (by rw [hserve]; decide)]
    by_contra hnot
    have hstores := exec_decode3_storesAt (exec_sharedOp d.fetch d.wake)
    rw [← State.wake_fetch] at hstores
    rw [← d.wake_iflag] at hd
    exact lost e (KeepsRequests.storesAt hstores hnot i hd)

end Sys2Proof.Machine
end

section
/-! PROOFS. The pixels of the background, the window and one sprite (spec 60_exceptions.md R257 to R262), in numbers: the
tile's address, the colour of its two bits and the shade the palette gives it. -/

namespace Sys2Proof.Machine

/-! ### Colours and shades (R257, R47) -/

/-- A colour's number, from its two bits (R257). -/
def colorNumber (msb lsb : Byte) (i : Nat) : Nat := 2 * (msb.getLsbD i).toNat + (lsb.getLsbD i).toNat

theorem colorNumber_lt (msb lsb : Byte) (i : Nat) : colorNumber msb lsb i < 4 := by
  have hmsb := (msb.getLsbD i).toNat_le
  have hlsb := (lsb.getLsbD i).toNat_le
  unfold colorNumber
  omega

theorem toNat_colorAt (msb lsb : Byte) (i : Nat) : (colorAt msb lsb i).toNat = colorNumber msb lsb i :=
  BitVec.toNat_ofNat _ _ |>.trans (Nat.mod_eq_of_lt (colorNumber_lt msb lsb i))

/-- A palette is four shades of two bits each (R47). -/
theorem paletteMap_eq (p : Byte) (c : BitVec 2) : paletteMap p c = BitVec.ofNat 2 (p.toNat / 4 ^ c.toNat % 4) := by
  rw [← BitVec.toNat_inj, paletteMap, BitVec.extractLsb'_toNat, BitVec.toNat_ofNat, Nat.shiftRight_eq_div_pow, Nat.pow_mul]
  simp

theorem bne_zero_eq_toNat (c : BitVec 2) : (c != 0) = (c.toNat != 0) := by
  revert c
  decide

/-- A pixel by its colour's number. -/
theorem pixel_eq_of_toNat {p : Byte} {c : BitVec 2} {n : Nat} (h : c.toNat = n) :
    (⟨paletteMap p c, c != 0⟩ : Pixel) = ⟨BitVec.ofNat 2 (p.toNat / 4 ^ n % 4), n != 0⟩ := by
  rw [paletteMap_eq, bne_zero_eq_toNat, h]

/-! ### The background and the window (R257 to R259) -/

/-- Tile numbers count from 0x9000 as signed ones where LCDC bit 4 is 0 (R257). -/
theorem toNat_xor_0x80 (i : Byte) : ((i ^^^ 0x80).toNat : Int) = i.toInt + 128 := by
  revert i
  decide

theorem tileBase_eq (lcdc i : Byte) :
    (tileBase lcdc i : Int) = if lcdc.getLsbD 4 then 0x8000 + 16 * (i.toNat : Int) else 0x9000 + 16 * i.toInt := by
  have hsigned := toNat_xor_0x80 i
  unfold tileBase
  split <;> omega

/-- The number of the colour of pixel (px, py) of the tile map at `base`, with the tile's row at a signed distance. -/
def mapColorNumber (m : Mem) (lcdc : Byte) (base px py : Nat) : Nat :=
  let i := Mem.read m (base + 32 * (py / 8) + px / 8)
  let start : Int := if lcdc.getLsbD 4 then 0x8000 + 16 * (i.toNat : Int) else 0x9000 + 16 * i.toInt
  let row := (start + 2 * (py % 8 : Nat)).toNat
  colorNumber (Mem.read m (row + 1)) (Mem.read m row) (7 - px % 8)

theorem toNat_mapColor (m : Mem) (lcdc : Byte) (base px py : Nat) :
    (mapColor m lcdc base px py).toNat = mapColorNumber m lcdc base px py := by
  unfold mapColorNumber
  dsimp only
  rw [← tileBase_eq, mapColor, tileColor, toNat_colorAt]
  have hrow (n : Nat) : ((n : Int) + 2 * (py % 8 : Nat)).toNat = n + 2 * (py % 8) := by omega
  rw [hrow]

/-- The window is shown from column WX - 7 on where it is visible (R259). -/
theorem windowShown_iff (l : Lcd) (ly x : Nat) :
    (windowVisible l ly && decide (l.wx.toNat - 7 ≤ x)) = true ↔
      (l.lcdc.getLsbD 5 = true ∧ l.wy.toNat ≤ ly ∧ 7 ≤ l.wx.toNat ∧ l.wx.toNat ≤ 166) ∧ l.wx.toNat ≤ x + 7 := by
  simp only [windowVisible, Config.lcdWidth, Bool.and_eq_true, decide_eq_true_eq]
  constructor
  · rintro ⟨⟨⟨⟨hon, hwy⟩, hwx⟩, hwidth⟩, hx⟩
    exact ⟨⟨hon, hwy, hwx, by omega⟩, by omega⟩
  · rintro ⟨⟨hon, hwy, hwx, hwidth⟩, hx⟩
    exact ⟨⟨⟨⟨hon, hwy⟩, hwx⟩, by omega⟩, by omega⟩

theorem planePixel_mapColor (p : Byte) (m : Mem) (lcdc : Byte) (base px py : Nat) :
    planePixel p (mapColor m lcdc base px py) =
      ⟨BitVec.ofNat 2 (p.toNat / 4 ^ mapColorNumber m lcdc base px py % 4), mapColorNumber m lcdc base px py != 0⟩ :=
  pixel_eq_of_toNat (toNat_mapColor m lcdc base px py)

/-- Settles O52: the tile's row has the address the signed count gives it, its two bits the colour's number, and the window
is shown exactly where it is visible and joined. -/
theorem backgroundAndWindowPixels : Obligations.BackgroundAndWindowPixels := by
  unfold Obligations.BackgroundAndWindowPixels
  intro l m ly x _ tileAt shade bg win visible
  have hshown := windowShown_iff l ly x
  refine ⟨fun hvisible hx => ?_, fun hnot hon => ?_, fun hnot hoff => ?_⟩
  · rw [linePixel, if_pos (hshown.mpr ⟨hvisible, hx⟩), windowPixel, planePixel_mapColor]
    obtain ⟨-, -, hwx, -⟩ := hvisible
    rw [show x - (l.wx.toNat - 7) = x + 7 - l.wx.toNat by omega]
    rfl
  · rw [linePixel, if_neg (mt hshown.mp hnot), if_pos hon, bgPixel, planePixel_mapColor]
    rfl
  · rw [linePixel, if_neg (mt hshown.mp hnot), if_neg (Bool.eq_false_iff.mp hoff)]
    rfl

/-! ### One sprite (R260, R262) -/

theorem toNat_and_0xFE (t : Byte) : (t &&& 0xFE).toNat = 2 * (t.toNat / 2) := by
  revert t
  decide

theorem spriteHeight_eq_sixteen_iff (lcdc : Byte) : spriteHeight lcdc = 16 ↔ lcdc.getLsbD 2 = true := by
  unfold spriteHeight
  cases lcdc.getLsbD 2 <;> decide

/-- Settles O55: inside its eight columns the sprite has the colour of its row's two bits, with the tile's number made even
by halving it, and outside them it has none. -/
theorem spritePixels : Obligations.SpritePixels := by
  unfold Obligations.SpritePixels
  intro l m ly x o hcovers h r0 r t k bit row c palette
  have hr0 : r0 < h := Sprite.lt_of_covers hcovers
  refine ⟨?_, fun hleft hright => ?_, fun hout => ?_⟩
  · show (if o.attr.getLsbD 6 then h - 1 - r0 else r0) < h
    split <;> omega
  · have htile : (if spriteHeight l.lcdc = 16 then (o.tile &&& 0xFE).toNat else o.tile.toNat) = t := by
      simp only [spriteHeight_eq_sixteen_iff, toNat_and_0xFE]
      rfl
    have hcolor : spriteColor m (spriteHeight l.lcdc) ly o x =
        some (colorAt (Mem.read m (row + 1)) (Mem.read m row) bit) := by
      rw [spriteColor, if_pos ⟨hleft, hright⟩]
      dsimp only
      rw [htile]
      rfl
    rw [spritePixel, hcolor]
    exact pixel_eq_of_toNat (toNat_colorAt _ _ _)
  · rw [spritePixel, spriteColor, if_neg (by omega)]
    rfl

end Sys2Proof.Machine
end
